-- ==== Sys2Proof/Word.lean ====
section
/-! DEFINITION. The block's two data widths: 32-bit register values and addresses (R10, R11, `REG_WIDTH` and `ADDR_BITS` of R8) and the 8-bit elements of the FIFOs and of `Mem` (`FIFO_ELEM`, `PRIO_BITS` of R8). -/

namespace Sys2Proof

/-- A register value, a DMA address, a bus payload: 32 bits, unsigned (R10, R11). -/
abbrev Word := BitVec 32

/-- A FIFO element, a byte of `Mem`, an interrupt priority: 8 bits (R8). -/
abbrev Byte := BitVec 8

end Sys2Proof
end

