-- ==== Sys2Proof/Config.lean ====
section
/-! DEFINITION. The windows of the block (R112) and the implementation parameters of R8, which a model takes as an argument; the parameters travel in `State.cfg` and no step writes them. `REG_WIDTH`, `FIFO_ELEM`, `PRIO_BITS` and `ADDR_BITS` are fixed by `Word.lean`. -/

namespace Sys2Proof

/-- The eight register windows, in the order of their peripheral ids 0 to 7 (R112). -/
inductive Window where
  | gpio | uart | uart16550 | spi | i2c | timer | dma | intc
deriving DecidableEq, Repr

/-- The four serial windows, in pid order (R291). -/
inductive Serial where
  | uart | uart16550 | spi | i2c
deriving DecidableEq, Repr

/-- The overrun policy of a serial window (R8, R177): both lose the newest byte, `rejectAndFlag` also sets the overrun flag. -/
inductive OvrPolicy where
  | dropSilent | rejectAndFlag
deriving DecidableEq, Repr

/-- The implementation parameters of R8, and the platform's window bases (R91). -/
structure Config where
  /-- `FIFO_CAP`, in bytes. -/
  fifoCap    : Nat
  /-- `N_GPIO`. -/
  nGpio      : Nat
  /-- `GPIO_EXT`: the registers IE, IS, IT, IP, EDGE exist (R344). -/
  gpioExt    : Bool
  /-- `N_CMP`. -/
  nCmp       : Nat
  /-- `CMP_ARM_ONCE` (R231). -/
  cmpArmOnce : Bool
  /-- `N_DMA_CH`. -/
  nDmaCh     : Nat
  /-- `N_IRQ_SRC`. -/
  nIrqSrc    : Nat
  /-- `OVR_POLICY(UART)`. -/
  ovrUart    : OvrPolicy
  /-- `OVR_POLICY(UART16550)`. -/
  ovrU16     : OvrPolicy
  /-- `OVR_POLICY(SPI)`. -/
  ovrSpi     : OvrPolicy
  /-- `OVR_POLICY(I2C)`. -/
  ovrI2c     : OvrPolicy
  /-- Where a platform puts windows in the address space of `Mem` (R91, "a platform parameter"); empty when the
  model works in window offsets only. Read only to refuse a DMA launch that touches a window (R97, U7). -/
  bases      : List (Window × Word)
deriving DecidableEq, Repr

/-- The defaults of R8, with no window placed in `Mem`'s address space (R91). -/
def Config.default : Config where
  fifoCap    := 16
  nGpio      := 32
  gpioExt    := true
  nCmp       := 2
  cmpArmOnce := false
  nDmaCh     := 4
  nIrqSrc    := 32
  ovrUart    := .dropSilent
  ovrU16     := .rejectAndFlag
  ovrSpi     := .dropSilent
  ovrI2c     := .dropSilent
  bases      := []

/-- The ranges R8 allows the parameters. -/
abbrev Config.Legal (c : Config) : Prop :=
  1 ≤ c.fifoCap ∧ 1 ≤ c.nGpio ∧ c.nGpio ≤ 32 ∧ c.nCmp ≤ 14 ∧ 1 ≤ c.nDmaCh ∧ c.nDmaCh ≤ 8 ∧
    1 ≤ c.nIrqSrc ∧ c.nIrqSrc ≤ 32

end Sys2Proof
end

