-- ==== Sys2Proof/Syntax.lean ====
section
/-! DEFINITION. The stimuli of the block (R110): `Instr` has one constructor per mnemonic of spec/opcode_table.json, with the operands its rule names; the raw form a stimulus arrives in (R111); and the descriptor and source types that component operations take as operands (R24, R27, R153). -/

namespace Sys2Proof

/-- The four access modes of a field (R18, R142). -/
inductive AccessMode where
  | rw | ro | wo | w1c
deriving DecidableEq, Repr

/-- The read-effect tag of a field (R142): does its provider change state? -/
inductive ReadEffect where
  | pure | sideEffect
deriving DecidableEq, Repr

/-- Under which value of `map_sel` a Register is active (R49, R120). -/
inductive MapWhen where
  | always | sel0 | sel1
deriving DecidableEq, Repr

/-- A field descriptor (R24): bit offset, width, mode, read effect, whether callbacks are declared, declared reset value.
The widths of the entries admit ill-formed descriptors, which `OP RB.DEFINE` must refuse (R153). -/
structure FieldDesc where
  lo       : Byte
  width    : Byte
  mode     : AccessMode
  effect   : ReadEffect
  provider : Bool
  consumer : Bool
  reset    : Word
deriving DecidableEq, Repr

/-- A Register descriptor (R24): offset, the directions and mapping under which it is active, the bits marked
fatal-on-nonzero, the declared reset word, the fields in order. -/
structure RegDesc where
  off           : Word
  readable      : Bool
  writable      : Bool
  mapping       : MapWhen
  fatalReserved : Word
  resetWord     : Word
  fields        : List FieldDesc
deriving DecidableEq, Repr

/-- An interrupt source as an aggregator sees it (R27, R193); OR-aggregation does not read `prio`. -/
structure Source where
  enable  : Bool
  pending : Bool
  prio    : Byte
deriving DecidableEq, Repr

/-- Which of the two queues of a serial window (R25, R290). -/
inductive FifoDir where
  | tx | rx
deriving DecidableEq, Repr

/-- One of the eight FIFOQueues of the block: the operand `q` of the FIFO operations (R171). -/
structure FifoId where
  core : Serial
  dir  : FifoDir
deriving DecidableEq, Repr

/-- A stimulus as it arrives (R110, R111): the 20-bit key and the 32-bit payload; `ops` are the further operand words of a
component operation, whose operands the spec calls informal (log 5). Words that a stimulus does not take are ignored (log 5). -/
structure RawStimulus where
  key  : BitVec 20
  data : Word
  ops  : List Word
deriving DecidableEq, Repr

/-- Why a raw stimulus spells none (R119 (f), U8). -/
inductive DecodeError where
  /-- class 4 to 15 -/
  | badClass
  /-- a peripheral id that the class does not have -/
  | badPid
  /-- an event number the window does not have -/
  | badEvent
  /-- an operation number that R114 does not list -/
  | badOp
  /-- a snapshot of more than 32 sources (R199) -/
  | tooManySources
  /-- operand words that spell no Register list -/
  | badBank
deriving DecidableEq, Repr

/-- The stimuli: one constructor per mnemonic of the opcode table, in the table's order. -/
inductive Instr where
  /-- `RD GPIO.DATA` (R321) -/
  | rdGpioData
  /-- `WR GPIO.DATA` (R322) -/
  | wrGpioData (v : Word)
  /-- `RD GPIO.DIR` (R323) -/
  | rdGpioDir
  /-- `WR GPIO.DIR` (R324) -/
  | wrGpioDir (v : Word)
  /-- `RD GPIO.IE` (R325) -/
  | rdGpioIe
  /-- `WR GPIO.IE` (R326) -/
  | wrGpioIe (v : Word)
  /-- `RD GPIO.IS` (R327) -/
  | rdGpioIs
  /-- `WR GPIO.IS` (R328) -/
  | wrGpioIs (v : Word)
  /-- `RD GPIO.IT` (R329) -/
  | rdGpioIt
  /-- `WR GPIO.IT` (R330) -/
  | wrGpioIt (v : Word)
  /-- `RD GPIO.IP` (R331) -/
  | rdGpioIp
  /-- `WR GPIO.IP` (R332) -/
  | wrGpioIp (v : Word)
  /-- `RD GPIO.EDGE` (R333) -/
  | rdGpioEdge
  /-- `WR GPIO.EDGE` (R334) -/
  | wrGpioEdge (v : Word)
  /-- `EV GPIO.PIN` (R341) -/
  | evGpioPin (pin : BitVec 16) (level : Bool)
  /-- `EV GPIO.RESET` (R343) -/
  | evGpioReset
  /-- `RD UART.DATA` (R350) -/
  | rdUartData
  /-- `WR UART.DATA` (R351) -/
  | wrUartData (v : Word)
  /-- `RD UART.STATUS` (R352) -/
  | rdUartStatus
  /-- `WR UART.STATUS` (R353) -/
  | wrUartStatus (v : Word)
  /-- `RD UART.CONTROL` (R354) -/
  | rdUartControl
  /-- `WR UART.CONTROL` (R355) -/
  | wrUartControl (v : Word)
  /-- `RD UART.BAUD` (R356) -/
  | rdUartBaud
  /-- `WR UART.BAUD` (R357) -/
  | wrUartBaud (v : Word)
  /-- `EV UART.RXCHAR` (R358) -/
  | evUartRxChar (b : Byte)
  /-- `EV UART.RESET` (R359) -/
  | evUartReset
  /-- `RD UART16550.RBR` (R371) -/
  | rdUart16550Rbr
  /-- `WR UART16550.THR` (R372) -/
  | wrUart16550Thr (v : Word)
  /-- `RD UART16550.DLL` (R373) -/
  | rdUart16550Dll
  /-- `WR UART16550.DLL` (R374) -/
  | wrUart16550Dll (v : Word)
  /-- `RD UART16550.IER` (R375) -/
  | rdUart16550Ier
  /-- `WR UART16550.IER` (R376) -/
  | wrUart16550Ier (v : Word)
  /-- `RD UART16550.DLH` (R377) -/
  | rdUart16550Dlh
  /-- `WR UART16550.DLH` (R379) -/
  | wrUart16550Dlh (v : Word)
  /-- `RD UART16550.IIR` (R378) -/
  | rdUart16550Iir
  /-- `WR UART16550.FCR` (R380) -/
  | wrUart16550Fcr (v : Word)
  /-- `RD UART16550.LCR` (R381) -/
  | rdUart16550Lcr
  /-- `WR UART16550.LCR` (R382) -/
  | wrUart16550Lcr (v : Word)
  /-- `RD UART16550.LSR` (R383) -/
  | rdUart16550Lsr
  /-- `WR UART16550.LSR` (R384) -/
  | wrUart16550Lsr (v : Word)
  /-- `EV UART16550.RXCHAR` (R385) -/
  | evUart16550RxChar (b : Byte)
  /-- `EV UART16550.SETMAP` (R386) -/
  | evUart16550SetMap (sel : Bool)
  /-- `EV UART16550.RESET` (R387) -/
  | evUart16550Reset
  /-- `RD SPI.CONTROL` (R388) -/
  | rdSpiControl
  /-- `WR SPI.CONTROL` (R389) -/
  | wrSpiControl (v : Word)
  /-- `RD SPI.DATA` (R391) -/
  | rdSpiData
  /-- `WR SPI.DATA` (R392) -/
  | wrSpiData (v : Word)
  /-- `RD SPI.STATUS` (R393) -/
  | rdSpiStatus
  /-- `WR SPI.STATUS` (R395) -/
  | wrSpiStatus (v : Word)
  /-- `EV SPI.RXCHAR` (R394) -/
  | evSpiRxChar (b : Byte)
  /-- `EV SPI.RESET` (R397) -/
  | evSpiReset
  /-- `RD I2C.CONTROL` (R398) -/
  | rdI2cControl
  /-- `WR I2C.CONTROL` (R399) -/
  | wrI2cControl (v : Word)
  /-- `RD I2C.DATA` (R400) -/
  | rdI2cData
  /-- `WR I2C.DATA` (R401) -/
  | wrI2cData (v : Word)
  /-- `RD I2C.STATUS` (R402) -/
  | rdI2cStatus
  /-- `WR I2C.STATUS` (R403) -/
  | wrI2cStatus (v : Word)
  /-- `RD I2C.CLOCKDIV` (R404) -/
  | rdI2cClockDiv
  /-- `WR I2C.CLOCKDIV` (R406) -/
  | wrI2cClockDiv (v : Word)
  /-- `EV I2C.RXCHAR` (R405) -/
  | evI2cRxChar (b : Byte)
  /-- `EV I2C.RESET` (R407) -/
  | evI2cReset
  /-- `RD TIMER.CONTROL` (R420) -/
  | rdTimerControl
  /-- `WR TIMER.CONTROL` (R421) -/
  | wrTimerControl (v : Word)
  /-- `RD TIMER.VALUE` (R422) -/
  | rdTimerValue
  /-- `WR TIMER.VALUE` (R423) -/
  | wrTimerValue (v : Word)
  /-- `RD TIMER.RELOAD` (R424) -/
  | rdTimerReload
  /-- `WR TIMER.RELOAD` (R425) -/
  | wrTimerReload (v : Word)
  /-- `RD TIMER.PRESCALER` (R427) -/
  | rdTimerPrescaler
  /-- `WR TIMER.PRESCALER` (R428) -/
  | wrTimerPrescaler (v : Word)
  /-- `RD TIMER.STATUS` (R429) -/
  | rdTimerStatus
  /-- `WR TIMER.STATUS` (R430) -/
  | wrTimerStatus (v : Word)
  /-- `RD TIMER.CMP[k].TARGET` (R431) -/
  | rdTimerCmpTarget (k : BitVec 4)
  /-- `WR TIMER.CMP[k].TARGET` (R432) -/
  | wrTimerCmpTarget (k : BitVec 4) (v : Word)
  /-- `RD TIMER.CMP[k].CTRL` (R433) -/
  | rdTimerCmpCtrl (k : BitVec 4)
  /-- `WR TIMER.CMP[k].CTRL` (R434) -/
  | wrTimerCmpCtrl (k : BitVec 4) (v : Word)
  /-- `EV TIMER.TICK` (R440) -/
  | evTimerTick
  /-- `EV TIMER.RESET` (R441) -/
  | evTimerReset
  /-- `RD DMA.CONTROL` (R443) -/
  | rdDmaControl
  /-- `WR DMA.CONTROL` (R444) -/
  | wrDmaControl (v : Word)
  /-- `RD DMA.CH[n].SRC` (R445) -/
  | rdDmaChSrc (n : BitVec 3)
  /-- `WR DMA.CH[n].SRC` (R446) -/
  | wrDmaChSrc (n : BitVec 3) (v : Word)
  /-- `RD DMA.CH[n].DST` (R447) -/
  | rdDmaChDst (n : BitVec 3)
  /-- `WR DMA.CH[n].DST` (R448) -/
  | wrDmaChDst (n : BitVec 3) (v : Word)
  /-- `RD DMA.CH[n].COUNT` (R449) -/
  | rdDmaChCount (n : BitVec 3)
  /-- `WR DMA.CH[n].COUNT` (R450) -/
  | wrDmaChCount (n : BitVec 3) (v : Word)
  /-- `RD DMA.CH[n].CTRL` (R452) -/
  | rdDmaChCtrl (n : BitVec 3)
  /-- `WR DMA.CH[n].CTRL` (R451) -/
  | wrDmaChCtrl (n : BitVec 3) (v : Word)
  /-- `EV DMA.REQ` (R455) -/
  | evDmaReq (ch : BitVec 16)
  /-- `EV DMA.RESET` (R456) -/
  | evDmaReset
  /-- `RD INTC.ENABLE` (R460) -/
  | rdIntcEnable
  /-- `WR INTC.ENABLE` (R461) -/
  | wrIntcEnable (v : Word)
  /-- `RD INTC.PENDING` (R462) -/
  | rdIntcPending
  /-- `WR INTC.PENDING` (R463) -/
  | wrIntcPending (v : Word)
  /-- `RD INTC.PRIORITY[n]` (R464) -/
  | rdIntcPriority (n : BitVec 5)
  /-- `WR INTC.PRIORITY[n]` (R465) -/
  | wrIntcPriority (n : BitVec 5) (v : Word)
  /-- `EV INTC.SRC` (R466) -/
  | evIntcSrc (src : BitVec 16) (level : Bool)
  /-- `EV INTC.RESET` (R467) -/
  | evIntcReset
  /-- `OP RB.READ` (R143) -/
  | opRbRead (bank : Window) (off : Word)
  /-- `OP RB.WRITE` (R147) -/
  | opRbWrite (bank : Window) (off : Word) (v : Word)
  /-- `OP RB.RESET` (R152) -/
  | opRbReset (bank : Window)
  /-- `OP RB.DEFINE` (R153) -/
  | opRbDefine (bank : List RegDesc)
  /-- `OP FIFO.PUSH` (R171) -/
  | opFifoPush (q : FifoId) (b : Byte)
  /-- `OP FIFO.POP` (R172) -/
  | opFifoPop (q : FifoId)
  /-- `OP FIFO.COUNT` (R173) -/
  | opFifoCount (q : FifoId)
  /-- `OP FIFO.ISFULL` (R174) -/
  | opFifoIsFull (q : FifoId)
  /-- `OP FIFO.ISEMPTY` (R175) -/
  | opFifoIsEmpty (q : FifoId)
  /-- `OP FIFO.CLEAR` (R176) -/
  | opFifoClear (q : FifoId)
  /-- `OP LINE.SET` (R191) -/
  | opLineSet (line : Window) (level : Bool)
  /-- `OP AGG.OR` (R194) -/
  | opAggOr (line : Window) (sources : List Source)
  /-- `OP AGG.PRIO` (R197) -/
  | opAggPrio (line : Window) (sources : List Source)
  /-- `OP AGG.SNAPSHOT` (R199) -/
  | opAggSnapshot (sources : List Source)
  /-- `OP TCH.TICK` (R226) -/
  | opTchTick
  /-- `OP TCH.START` (R222) -/
  | opTchStart
  /-- `OP TCH.STOP` (R223) -/
  | opTchStop
  /-- `OP CMP.EVAL` (R230); an index of 16 bits is the model's choice (log 5) -/
  | opCmpEval (k : BitVec 16)
  /-- `OP DCH.CONFIGURE` (R263); an index of 16 bits is the model's choice (log 5) -/
  | opDchConfigure (c : BitVec 16) (src : Word) (dst : Word) (count : Word)
  /-- `OP DCH.SETENABLED` (R264); an index of 16 bits is the model's choice (log 5) -/
  | opDchSetEnabled (c : BitVec 16) (b : Bool)
  /-- `OP DCH.TRIGGER` (R266); an index of 16 bits is the model's choice (log 5) -/
  | opDchTrigger (c : BitVec 16)
  /-- `OP DMA.REQUEST` (R268) -/
  | opDmaRequest (n : Word)
  /-- `OP SER.DATAWRITE` (R293) -/
  | opSerDataWrite (core : Serial) (b : Byte)
  /-- `OP SER.DATAREAD` (R295) -/
  | opSerDataRead (core : Serial)
  /-- `OP SER.RXCHAR` (R297) -/
  | opSerRxChar (core : Serial) (b : Byte)
  /-- `OP SER.DRAIN` (R294) -/
  | opSerDrain (core : Serial)
deriving DecidableEq, Repr

end Sys2Proof
end

