-- ==== Sys2Proof/WellFormed.lean ====
section
/-! DEFINITION. Which terms of `Instr` are stimuli of the block: every operand within what its encoding admits. `Decode.lean` answers well-formed terms only, and encodes exactly these. -/

namespace Sys2Proof

/-- A compare index fits the slot field: slots 2 to 15 (R117, `N_CMP` at most 14 by R8). Whether the channel exists is the meaning's question. -/
abbrev cmpIndexWf (k : BitVec 4) : Bool := k.toNat < 14

/-- A snapshot packs at most 32 sources into one word (R199). -/
abbrev snapshotWf (ss : List Source) : Bool := ss.length ≤ 32

/-- The operand words of `OP RB.DEFINE` count the fields of a Register in 8 bits (log 5). -/
abbrev bankWf (bank : List RegDesc) : Bool := bank.all (fun r => r.fields.length < 256)

/-- Well-formedness of a stimulus. -/
def Instr.wf : Instr → Bool
  | .rdGpioData => true
  | .wrGpioData _ => true
  | .rdGpioDir => true
  | .wrGpioDir _ => true
  | .rdGpioIe => true
  | .wrGpioIe _ => true
  | .rdGpioIs => true
  | .wrGpioIs _ => true
  | .rdGpioIt => true
  | .wrGpioIt _ => true
  | .rdGpioIp => true
  | .wrGpioIp _ => true
  | .rdGpioEdge => true
  | .wrGpioEdge _ => true
  | .evGpioPin _ _ => true
  | .evGpioReset => true
  | .rdUartData => true
  | .wrUartData _ => true
  | .rdUartStatus => true
  | .wrUartStatus _ => true
  | .rdUartControl => true
  | .wrUartControl _ => true
  | .rdUartBaud => true
  | .wrUartBaud _ => true
  | .evUartRxChar _ => true
  | .evUartReset => true
  | .rdUart16550Rbr => true
  | .wrUart16550Thr _ => true
  | .rdUart16550Dll => true
  | .wrUart16550Dll _ => true
  | .rdUart16550Ier => true
  | .wrUart16550Ier _ => true
  | .rdUart16550Dlh => true
  | .wrUart16550Dlh _ => true
  | .rdUart16550Iir => true
  | .wrUart16550Fcr _ => true
  | .rdUart16550Lcr => true
  | .wrUart16550Lcr _ => true
  | .rdUart16550Lsr => true
  | .wrUart16550Lsr _ => true
  | .evUart16550RxChar _ => true
  | .evUart16550SetMap _ => true
  | .evUart16550Reset => true
  | .rdSpiControl => true
  | .wrSpiControl _ => true
  | .rdSpiData => true
  | .wrSpiData _ => true
  | .rdSpiStatus => true
  | .wrSpiStatus _ => true
  | .evSpiRxChar _ => true
  | .evSpiReset => true
  | .rdI2cControl => true
  | .wrI2cControl _ => true
  | .rdI2cData => true
  | .wrI2cData _ => true
  | .rdI2cStatus => true
  | .wrI2cStatus _ => true
  | .rdI2cClockDiv => true
  | .wrI2cClockDiv _ => true
  | .evI2cRxChar _ => true
  | .evI2cReset => true
  | .rdTimerControl => true
  | .wrTimerControl _ => true
  | .rdTimerValue => true
  | .wrTimerValue _ => true
  | .rdTimerReload => true
  | .wrTimerReload _ => true
  | .rdTimerPrescaler => true
  | .wrTimerPrescaler _ => true
  | .rdTimerStatus => true
  | .wrTimerStatus _ => true
  | .rdTimerCmpTarget k => cmpIndexWf k
  | .wrTimerCmpTarget k _ => cmpIndexWf k
  | .rdTimerCmpCtrl k => cmpIndexWf k
  | .wrTimerCmpCtrl k _ => cmpIndexWf k
  | .evTimerTick => true
  | .evTimerReset => true
  | .rdDmaControl => true
  | .wrDmaControl _ => true
  | .rdDmaChSrc _ => true
  | .wrDmaChSrc _ _ => true
  | .rdDmaChDst _ => true
  | .wrDmaChDst _ _ => true
  | .rdDmaChCount _ => true
  | .wrDmaChCount _ _ => true
  | .rdDmaChCtrl _ => true
  | .wrDmaChCtrl _ _ => true
  | .evDmaReq _ => true
  | .evDmaReset => true
  | .rdIntcEnable => true
  | .wrIntcEnable _ => true
  | .rdIntcPending => true
  | .wrIntcPending _ => true
  | .rdIntcPriority _ => true
  | .wrIntcPriority _ _ => true
  | .evIntcSrc _ _ => true
  | .evIntcReset => true
  | .opRbRead _ _ => true
  | .opRbWrite _ _ _ => true
  | .opRbReset _ => true
  | .opRbDefine bank => bankWf bank
  | .opFifoPush _ _ => true
  | .opFifoPop _ => true
  | .opFifoCount _ => true
  | .opFifoIsFull _ => true
  | .opFifoIsEmpty _ => true
  | .opFifoClear _ => true
  | .opLineSet _ _ => true
  | .opAggOr _ _ => true
  | .opAggPrio _ _ => true
  | .opAggSnapshot ss => snapshotWf ss
  | .opTchTick => true
  | .opTchStart => true
  | .opTchStop => true
  | .opCmpEval _ => true
  | .opDchConfigure _ _ _ _ => true
  | .opDchSetEnabled _ _ => true
  | .opDchTrigger _ => true
  | .opDmaRequest _ => true
  | .opSerDataWrite _ _ => true
  | .opSerDataRead _ => true
  | .opSerRxChar _ _ => true
  | .opSerDrain _ => true

end Sys2Proof
end

