-- ==== Sys2Proof/Decode.lean ====
section
/-! DEFINITION. Decoding a raw stimulus (R111 to R120) and encoding one. `decode` is total: it answers a stimulus or a reason by name. It is a pure function of the raw stimulus and `map_sel` (R115); the counts of R8 are checked by the meanings, which take the unmatched path for an index the block does not have (log 18). -/

namespace Sys2Proof

/-! ## Field helpers -/

/-- Peripheral ids 0 to 7 (R112). -/
def windowOfBits (p : BitVec 3) : Window :=
  match p.toNat with
  | 0 => .gpio | 1 => .uart | 2 => .uart16550 | 3 => .spi
  | 4 => .i2c | 5 => .timer | 6 => .dma | _ => .intc

/-- The peripheral id of a window (R112). -/
def pidOf : Window → BitVec 4
  | .gpio => 0 | .uart => 1 | .uart16550 => 2 | .spi => 3
  | .i2c => 4 | .timer => 5 | .dma => 6 | .intc => 7

/-- The operand code of a serial window: its place among the serial windows (log 5). -/
def serialOfBits (b : BitVec 2) : Serial :=
  match b.toNat with
  | 0 => .uart | 1 => .uart16550 | 2 => .spi | _ => .i2c

/-- The inverse of `serialOfBits`. -/
def bitsOfSerial : Serial → BitVec 2
  | .uart => 0 | .uart16550 => 1 | .spi => 2 | .i2c => 3

/-- The operand code of a queue: bit 0 the direction (0 TX, 1 RX), bits 2 to 1 the serial window (log 5). -/
def fifoOfBits (b : BitVec 3) : FifoId :=
  ⟨serialOfBits (b.extractLsb' 1 2), if b.getLsbD 0 then .rx else .tx⟩

/-- The inverse of `fifoOfBits`. -/
def bitsOfFifo (q : FifoId) : BitVec 3 :=
  bitsOfSerial q.core ++ (match q.dir with | .tx => 0#1 | .rx => 1#1)

/-- A Boolean written into bit 0 of a word (R10). -/
def boolWord (b : Bool) : Word := if b then 1 else 0

/-- A source in one operand word: bit 0 enable, bit 1 pending, bits 15 to 8 priority (log 5). -/
def sourceOfWord (w : Word) : Source :=
  ⟨w.getLsbD 0, w.getLsbD 1, w.extractLsb' 8 8⟩

/-- The inverse of `sourceOfWord`. -/
def wordOfSource (x : Source) : Word :=
  boolWord x.enable ||| (boolWord x.pending <<< 1) ||| (x.prio.setWidth 32 <<< 8)

/-! ## The operand words of `OP RB.DEFINE` (log 5) -/

/-- The code of an access mode in a field word. -/
def bitsOfMode : AccessMode → BitVec 2
  | .rw => 0 | .ro => 1 | .wo => 2 | .w1c => 3

/-- The inverse of `bitsOfMode`. -/
def modeOfBits (b : BitVec 2) : AccessMode :=
  match b.toNat with
  | 0 => .rw | 1 => .ro | 2 => .wo | _ => .w1c

/-- The code of a mapping in a Register word. -/
def bitsOfMapping : MapWhen → BitVec 2
  | .always => 0 | .sel0 => 1 | .sel1 => 2

/-- The inverse of `bitsOfMapping`; code 3 names no mapping. -/
def mappingOfBits (b : BitVec 2) : Option MapWhen :=
  match b.toNat with
  | 0 => some .always | 1 => some .sel0 | 2 => some .sel1 | _ => none

/-- First word of a field: `lo` 7 to 0, `width` 15 to 8, mode 17 to 16, read effect 18, provider 19, consumer 20. -/
def fieldHead (f : FieldDesc) : Word :=
  f.lo.setWidth 32 ||| (f.width.setWidth 32 <<< 8) ||| ((bitsOfMode f.mode).setWidth 32 <<< 16) |||
    (boolWord (f.effect == .sideEffect) <<< 18) ||| (boolWord f.provider <<< 19) ||| (boolWord f.consumer <<< 20)

/-- A field from its two words. -/
def fieldOfWords (a r : Word) : FieldDesc where
  lo       := a.extractLsb' 0 8
  width    := a.extractLsb' 8 8
  mode     := modeOfBits (a.extractLsb' 16 2)
  effect   := if a.getLsbD 18 then .sideEffect else .pure
  provider := a.getLsbD 19
  consumer := a.getLsbD 20
  reset    := r

/-- Second word of a Register: direction bits 0 and 1, mapping 3 to 2, number of fields 15 to 8. -/
def regHead (r : RegDesc) : Word :=
  boolWord r.readable ||| (boolWord r.writable <<< 1) ||| ((bitsOfMapping r.mapping).setWidth 32 <<< 2) |||
    ((BitVec.ofNat 8 r.fields.length).setWidth 32 <<< 8)

/-- The words of a field list. -/
def fieldWords : List FieldDesc → List Word
  | [] => []
  | f :: fs => fieldHead f :: f.reset :: fieldWords fs

/-- The words of a Register list: four words and the fields' words for each Register. -/
def bankWords : List RegDesc → List Word
  | [] => []
  | r :: rs => r.off :: regHead r :: r.fatalReserved :: r.resetWord :: (fieldWords r.fields ++ bankWords rs)

/-- Take `n` fields off a word list. -/
def takeFields : Nat → List Word → Option (List FieldDesc × List Word)
  | 0, ws => some ([], ws)
  | n + 1, a :: r :: ws => (takeFields n ws).map (fun p => (fieldOfWords a r :: p.1, p.2))
  | _ + 1, _ => none

/-- Read Registers off a word list; the fuel is at least the number of Registers. -/
def takeRegs : Nat → List Word → Option (List RegDesc)
  | _, [] => some []
  | fuel + 1, off :: b :: fatal :: rst :: ws =>
    match mappingOfBits (b.extractLsb' 2 2), takeFields (b.extractLsb' 8 8).toNat ws with
    | some m, some (fs, rest) =>
      (takeRegs fuel rest).map (fun rs => ⟨off, b.getLsbD 0, b.getLsbD 1, m, fatal, rst, fs⟩ :: rs)
    | _, _ => none
  | _, _ => none

/-! ## Bus reads and writes: the Register an offset reaches (R106, R115, R117, R120) -/

/-- Reads of the GPIO window. -/
def readGpio (off : BitVec 12) : Option Instr :=
  match off.toNat with
  | 0x00 => some .rdGpioData
  | 0x04 => some .rdGpioDir
  | 0x08 => some .rdGpioIe
  | 0x0C => some .rdGpioIs
  | 0x10 => some .rdGpioIt
  | 0x14 => some .rdGpioIp
  | 0x18 => some .rdGpioEdge
  | _ => none

/-- Writes of the GPIO window. -/
def writeGpio (off : BitVec 12) (v : Word) : Option Instr :=
  match off.toNat with
  | 0x00 => some (.wrGpioData v)
  | 0x04 => some (.wrGpioDir v)
  | 0x08 => some (.wrGpioIe v)
  | 0x0C => some (.wrGpioIs v)
  | 0x10 => some (.wrGpioIt v)
  | 0x14 => some (.wrGpioIp v)
  | 0x18 => some (.wrGpioEdge v)
  | _ => none

/-- Reads of the UART window. -/
def readUart (off : BitVec 12) : Option Instr :=
  match off.toNat with
  | 0x00 => some .rdUartData
  | 0x04 => some .rdUartStatus
  | 0x08 => some .rdUartControl
  | 0x0C => some .rdUartBaud
  | _ => none

/-- Writes of the UART window. -/
def writeUart (off : BitVec 12) (v : Word) : Option Instr :=
  match off.toNat with
  | 0x00 => some (.wrUartData v)
  | 0x04 => some (.wrUartStatus v)
  | 0x08 => some (.wrUartControl v)
  | 0x0C => some (.wrUartBaud v)
  | _ => none

/-- Reads of the UART16550 window; `map_sel` chooses the Register at 0x00 and 0x04 (R120). -/
def readUart16550 (mapSel : Bool) (off : BitVec 12) : Option Instr :=
  match off.toNat with
  | 0x00 => some (if mapSel then .rdUart16550Dll else .rdUart16550Rbr)
  | 0x04 => some (if mapSel then .rdUart16550Dlh else .rdUart16550Ier)
  | 0x08 => some .rdUart16550Iir
  | 0x0C => some .rdUart16550Lcr
  | 0x14 => some .rdUart16550Lsr
  | _ => none

/-- Writes of the UART16550 window. -/
def writeUart16550 (mapSel : Bool) (off : BitVec 12) (v : Word) : Option Instr :=
  match off.toNat with
  | 0x00 => some (if mapSel then .wrUart16550Dll v else .wrUart16550Thr v)
  | 0x04 => some (if mapSel then .wrUart16550Dlh v else .wrUart16550Ier v)
  | 0x08 => some (.wrUart16550Fcr v)
  | 0x0C => some (.wrUart16550Lcr v)
  | 0x14 => some (.wrUart16550Lsr v)
  | _ => none

/-- Reads of the SPI window. -/
def readSpi (off : BitVec 12) : Option Instr :=
  match off.toNat with
  | 0x00 => some .rdSpiControl
  | 0x04 => some .rdSpiData
  | 0x08 => some .rdSpiStatus
  | _ => none

/-- Writes of the SPI window. -/
def writeSpi (off : BitVec 12) (v : Word) : Option Instr :=
  match off.toNat with
  | 0x00 => some (.wrSpiControl v)
  | 0x04 => some (.wrSpiData v)
  | 0x08 => some (.wrSpiStatus v)
  | _ => none

/-- Reads of the I2C window. -/
def readI2c (off : BitVec 12) : Option Instr :=
  match off.toNat with
  | 0x00 => some .rdI2cControl
  | 0x04 => some .rdI2cData
  | 0x08 => some .rdI2cStatus
  | 0x0C => some .rdI2cClockDiv
  | _ => none

/-- Writes of the I2C window. -/
def writeI2c (off : BitVec 12) (v : Word) : Option Instr :=
  match off.toNat with
  | 0x00 => some (.wrI2cControl v)
  | 0x04 => some (.wrI2cData v)
  | 0x08 => some (.wrI2cStatus v)
  | 0x0C => some (.wrI2cClockDiv v)
  | _ => none

/-- The slot field of a TIMER offset, `off[7:4]` (R117). -/
def slotOf (off : BitVec 12) : BitVec 4 := off.extractLsb' 4 4

/-- Is the offset in a compare block: slots 2 to 15 below 0x100 (R117)? -/
def inCmpBlock (off : BitVec 12) : Bool :=
  off.extractLsb' 8 4 == 0 && 2 ≤ (slotOf off).toNat

/-- Reads of the TIMER window. -/
def readTimer (off : BitVec 12) : Option Instr :=
  match off.toNat with
  | 0x00 => some .rdTimerControl
  | 0x04 => some .rdTimerValue
  | 0x08 => some .rdTimerReload
  | 0x0C => some .rdTimerPrescaler
  | 0x10 => some .rdTimerStatus
  | _ =>
    if inCmpBlock off then
      match (off.extractLsb' 0 4).toNat with
      | 0x0 => some (.rdTimerCmpTarget (slotOf off - 2))
      | 0x4 => some (.rdTimerCmpCtrl (slotOf off - 2))
      | _ => none
    else none

/-- Writes of the TIMER window. -/
def writeTimer (off : BitVec 12) (v : Word) : Option Instr :=
  match off.toNat with
  | 0x00 => some (.wrTimerControl v)
  | 0x04 => some (.wrTimerValue v)
  | 0x08 => some (.wrTimerReload v)
  | 0x0C => some (.wrTimerPrescaler v)
  | 0x10 => some (.wrTimerStatus v)
  | _ =>
    if inCmpBlock off then
      match (off.extractLsb' 0 4).toNat with
      | 0x0 => some (.wrTimerCmpTarget (slotOf off - 2) v)
      | 0x4 => some (.wrTimerCmpCtrl (slotOf off - 2) v)
      | _ => none
    else none

/-- Reads of the DMA window: `n = off[7:5]`, `r = off[4:0]`, `off[11:8] = 1` for the channel blocks (R117). -/
def readDma (off : BitVec 12) : Option Instr :=
  if off == 0 then some .rdDmaControl
  else if off.extractLsb' 8 4 == 1 then
    match (off.extractLsb' 0 5).toNat with
    | 0x00 => some (.rdDmaChSrc (off.extractLsb' 5 3))
    | 0x04 => some (.rdDmaChDst (off.extractLsb' 5 3))
    | 0x08 => some (.rdDmaChCount (off.extractLsb' 5 3))
    | 0x0C => some (.rdDmaChCtrl (off.extractLsb' 5 3))
    | _ => none
  else none

/-- Writes of the DMA window. -/
def writeDma (off : BitVec 12) (v : Word) : Option Instr :=
  if off == 0 then some (.wrDmaControl v)
  else if off.extractLsb' 8 4 == 1 then
    match (off.extractLsb' 0 5).toNat with
    | 0x00 => some (.wrDmaChSrc (off.extractLsb' 5 3) v)
    | 0x04 => some (.wrDmaChDst (off.extractLsb' 5 3) v)
    | 0x08 => some (.wrDmaChCount (off.extractLsb' 5 3) v)
    | 0x0C => some (.wrDmaChCtrl (off.extractLsb' 5 3) v)
    | _ => none
  else none

/-- Is the offset an entry of the priority table: `off[11:8] = 1`, `off[7] = 0`, `off[1:0] = 0` (R117)? -/
def inPrioTable (off : BitVec 12) : Bool :=
  off.extractLsb' 7 5 == 2 && off.extractLsb' 0 2 == 0

/-- Reads of the INTC window. -/
def readIntc (off : BitVec 12) : Option Instr :=
  match off.toNat with
  | 0x00 => some .rdIntcEnable
  | 0x04 => some .rdIntcPending
  | _ => if inPrioTable off then some (.rdIntcPriority (off.extractLsb' 2 5)) else none

/-- Writes of the INTC window. -/
def writeIntc (off : BitVec 12) (v : Word) : Option Instr :=
  match off.toNat with
  | 0x00 => some (.wrIntcEnable v)
  | 0x04 => some (.wrIntcPending v)
  | _ => if inPrioTable off then some (.wrIntcPriority (off.extractLsb' 2 5) v) else none

/-- The Register a bus read reaches, by window (R115). -/
def readRow (mapSel : Bool) (w : Window) (off : BitVec 12) : Option Instr :=
  match w with
  | .gpio => readGpio off
  | .uart => readUart off
  | .uart16550 => readUart16550 mapSel off
  | .spi => readSpi off
  | .i2c => readI2c off
  | .timer => readTimer off
  | .dma => readDma off
  | .intc => readIntc off

/-- The Register a bus write reaches, by window (R115). -/
def writeRow (mapSel : Bool) (w : Window) (off : BitVec 12) (v : Word) : Option Instr :=
  match w with
  | .gpio => writeGpio off v
  | .uart => writeUart off v
  | .uart16550 => writeUart16550 mapSel off v
  | .spi => writeSpi off v
  | .i2c => writeI2c off v
  | .timer => writeTimer off v
  | .dma => writeDma off v
  | .intc => writeIntc off v

/-- A bus read. An offset no row names is still a stimulus (R119 (a)): the generic read of the window's bank, which
every bus read is (R140), and which answers it as an unmatched offset (R144). -/
def decodeRead (mapSel : Bool) (w : Window) (off : BitVec 12) : Instr :=
  (readRow mapSel w off).getD (.opRbRead w (off.setWidth 32))

/-- A bus write, with the same reading of an offset no row names. -/
def decodeWrite (mapSel : Bool) (w : Window) (off : BitVec 12) (v : Word) : Instr :=
  (writeRow mapSel w off v).getD (.opRbWrite w (off.setWidth 32) v)

/-! ## Events and component operations -/

/-- Events (R113); payload bits a row does not list are ignored. -/
def decodeEvent (w : Window) (arg : BitVec 12) (d : Word) : Except DecodeError Instr :=
  match w, arg.toNat with
  | .gpio, 0 => .ok .evGpioReset
  | .gpio, 1 => .ok (.evGpioPin (d.extractLsb' 0 16) (d.getLsbD 16))
  | .uart, 0 => .ok .evUartReset
  | .uart, 1 => .ok (.evUartRxChar (d.extractLsb' 0 8))
  | .uart16550, 0 => .ok .evUart16550Reset
  | .uart16550, 1 => .ok (.evUart16550RxChar (d.extractLsb' 0 8))
  | .uart16550, 2 => .ok (.evUart16550SetMap (d.getLsbD 0))
  | .spi, 0 => .ok .evSpiReset
  | .spi, 1 => .ok (.evSpiRxChar (d.extractLsb' 0 8))
  | .i2c, 0 => .ok .evI2cReset
  | .i2c, 1 => .ok (.evI2cRxChar (d.extractLsb' 0 8))
  | .timer, 0 => .ok .evTimerReset
  | .timer, 1 => .ok .evTimerTick
  | .dma, 0 => .ok .evDmaReset
  | .dma, 1 => .ok (.evDmaReq (d.extractLsb' 0 16))
  | .intc, 0 => .ok .evIntcReset
  | .intc, 1 => .ok (.evIntcSrc (d.extractLsb' 0 16) (d.getLsbD 16))
  | _, _ => .error .badEvent

/-- Component operations (R114). Their operands are informal (R111), so all of this is the model's choice, DESIGN CHOICE of
log 5: operand word 0 is the payload, operand word `i + 1` is `ops[i]`, 0 where absent; the index of `CMP.EVAL` and the channel
of `DCH.*` are bits 15 to 0 of word 0, bits 31 to 16 being ignored (0x00010000 names channel 0), while `DMA.REQUEST` takes all
32 bits; bits of a word that no operand uses, and words beyond those an operation takes, are ignored. -/
def decodeOp (arg : BitVec 12) (d : Word) (ops : List Word) : Except DecodeError Instr :=
  let bank := windowOfBits (d.extractLsb' 0 3)
  let q := fifoOfBits (d.extractLsb' 0 3)
  let core := serialOfBits (d.extractLsb' 0 2)
  let x := ops.getD 0 0
  match arg.toNat with
  | 0x001 => .ok (.opRbRead bank x)
  | 0x002 => .ok (.opRbWrite bank x (ops.getD 1 0))
  | 0x003 => .ok (.opRbReset bank)
  | 0x004 =>
    match takeRegs ops.length ops with
    | some regs => .ok (.opRbDefine regs)
    | none => .error .badBank
  | 0x010 => .ok (.opFifoPush q (x.extractLsb' 0 8))
  | 0x011 => .ok (.opFifoPop q)
  | 0x012 => .ok (.opFifoCount q)
  | 0x013 => .ok (.opFifoIsFull q)
  | 0x014 => .ok (.opFifoIsEmpty q)
  | 0x015 => .ok (.opFifoClear q)
  | 0x020 => .ok (.opLineSet bank (x.getLsbD 0))
  | 0x021 => .ok (.opAggOr bank (ops.map sourceOfWord))
  | 0x022 => .ok (.opAggPrio bank (ops.map sourceOfWord))
  | 0x023 =>
    if ops.length ≤ 32 then .ok (.opAggSnapshot (ops.map sourceOfWord)) else .error .tooManySources
  | 0x030 => .ok .opTchTick
  | 0x031 => .ok .opTchStart
  | 0x032 => .ok .opTchStop
  | 0x033 => .ok (.opCmpEval (d.extractLsb' 0 16))
  | 0x040 => .ok (.opDchConfigure (d.extractLsb' 0 16) x (ops.getD 1 0) (ops.getD 2 0))
  | 0x041 => .ok (.opDchSetEnabled (d.extractLsb' 0 16) (x.getLsbD 0))
  | 0x042 => .ok (.opDchTrigger (d.extractLsb' 0 16))
  | 0x043 => .ok (.opDmaRequest d)
  | 0x050 => .ok (.opSerDataWrite core (x.extractLsb' 0 8))
  | 0x051 => .ok (.opSerDataRead core)
  | 0x052 => .ok (.opSerRxChar core (x.extractLsb' 0 8))
  | 0x053 => .ok (.opSerDrain core)
  | _ => .error .badOp

/-- Decode a raw stimulus under the current `map_sel` (R111, R115, R119 (f)). Further operand words on a bus access or an event
are ignored and not refused: R110 gives those stimuli none, and this is the model's choice (DESIGN CHOICE, log 5). -/
def decode (mapSel : Bool) (r : RawStimulus) : Except DecodeError Instr :=
  let pid := r.key.extractLsb' 16 4
  let arg := r.key.extractLsb' 0 12
  let w := windowOfBits (pid.extractLsb' 0 3)
  match (r.key.extractLsb' 12 4).toNat with
  | 0 => if pid.getLsbD 3 then .error .badPid else .ok (decodeRead mapSel w arg)
  | 1 => if pid.getLsbD 3 then .error .badPid else .ok (decodeWrite mapSel w arg r.data)
  | 2 => if pid.getLsbD 3 then .error .badPid else decodeEvent w arg r.data
  | 3 => if pid = 0xF then decodeOp arg r.data r.ops else .error .badPid
  | _ => .error .badClass

/-- The raw stimulus a number spells: the key in bits 19 to 0, as spec/opcode_table.json numbers it, and the payload
from bit 20 on (log 6); no further operand words. -/
def rawOfNat (nbits w : Nat) : RawStimulus :=
  let bits := w % 2 ^ nbits
  ⟨BitVec.ofNat 20 bits, BitVec.ofNat 32 (bits / 2 ^ 20), []⟩

/-- The instruction the decoder reads from an opcode-table word, under the mapping of the reset state (`map_sel = 0`, R31). -/
def decodeTableWord (nbits w : Nat) : Option Instr :=
  match decode false (rawOfNat nbits w) with
  | .ok i => some i
  | .error _ => none

/-! ## Encoding -/

/-- A key (R111): `{pid, class, arg}`. -/
def keyOf (pid cls : BitVec 4) (arg : BitVec 12) : BitVec 20 := pid ++ cls ++ arg

/-- A bus read of a window at an offset. -/
def rdRaw (w : Window) (off : BitVec 12) : RawStimulus := ⟨keyOf (pidOf w) 0 off, 0, []⟩

/-- A bus write of a window at an offset. -/
def wrRaw (w : Window) (off : BitVec 12) (v : Word) : RawStimulus := ⟨keyOf (pidOf w) 1 off, v, []⟩

/-- An event of a window. -/
def evRaw (w : Window) (arg : BitVec 12) (d : Word) : RawStimulus := ⟨keyOf (pidOf w) 2 arg, d, []⟩

/-- A component operation. -/
def opRaw (arg : BitVec 12) (d : Word) (ops : List Word) : RawStimulus := ⟨keyOf 0xF 3 arg, d, ops⟩

/-- The offset of a compare register: `0x20 + 0x10*k + r` (R117). -/
def cmpOffset (k r : BitVec 4) : BitVec 12 := (0#4 ++ (k + 2)) ++ r

/-- The offset of a DMA channel register: `0x100 + 0x20*n + r` (R117). -/
def chOffset (n : BitVec 3) (r : BitVec 5) : BitVec 12 := (1#4 ++ n) ++ r

/-- The offset of a priority register: `0x100 + 4*n` (R117). -/
def prioOffset (n : BitVec 5) : BitVec 12 := (2#5 ++ n) ++ 0#2

/-- The payload of a level event: the index in bits 15 to 0, the level in bit 16 (R113). -/
def levelPayload (i : BitVec 16) (level : Bool) : Word :=
  i.setWidth 32 ||| (boolWord level <<< 16)

/-- A window as an operand word. -/
def windowWord (w : Window) : Word := (pidOf w).setWidth 32

/-- A serial window as an operand word. -/
def serialWord (c : Serial) : Word := (bitsOfSerial c).setWidth 32

/-- A queue as an operand word. -/
def fifoWord (q : FifoId) : Word := (bitsOfFifo q).setWidth 32

/-- The raw stimulus of an instruction, from the encoding tables R111 to R114 and R117. -/
def encode : Instr → RawStimulus
  | .rdGpioData => rdRaw .gpio 0x00
  | .wrGpioData v => wrRaw .gpio 0x00 v
  | .rdGpioDir => rdRaw .gpio 0x04
  | .wrGpioDir v => wrRaw .gpio 0x04 v
  | .rdGpioIe => rdRaw .gpio 0x08
  | .wrGpioIe v => wrRaw .gpio 0x08 v
  | .rdGpioIs => rdRaw .gpio 0x0C
  | .wrGpioIs v => wrRaw .gpio 0x0C v
  | .rdGpioIt => rdRaw .gpio 0x10
  | .wrGpioIt v => wrRaw .gpio 0x10 v
  | .rdGpioIp => rdRaw .gpio 0x14
  | .wrGpioIp v => wrRaw .gpio 0x14 v
  | .rdGpioEdge => rdRaw .gpio 0x18
  | .wrGpioEdge v => wrRaw .gpio 0x18 v
  | .evGpioPin pin level => evRaw .gpio 1 (levelPayload pin level)
  | .evGpioReset => evRaw .gpio 0 0
  | .rdUartData => rdRaw .uart 0x00
  | .wrUartData v => wrRaw .uart 0x00 v
  | .rdUartStatus => rdRaw .uart 0x04
  | .wrUartStatus v => wrRaw .uart 0x04 v
  | .rdUartControl => rdRaw .uart 0x08
  | .wrUartControl v => wrRaw .uart 0x08 v
  | .rdUartBaud => rdRaw .uart 0x0C
  | .wrUartBaud v => wrRaw .uart 0x0C v
  | .evUartRxChar b => evRaw .uart 1 (b.setWidth 32)
  | .evUartReset => evRaw .uart 0 0
  | .rdUart16550Rbr => rdRaw .uart16550 0x00
  | .wrUart16550Thr v => wrRaw .uart16550 0x00 v
  | .rdUart16550Dll => rdRaw .uart16550 0x00
  | .wrUart16550Dll v => wrRaw .uart16550 0x00 v
  | .rdUart16550Ier => rdRaw .uart16550 0x04
  | .wrUart16550Ier v => wrRaw .uart16550 0x04 v
  | .rdUart16550Dlh => rdRaw .uart16550 0x04
  | .wrUart16550Dlh v => wrRaw .uart16550 0x04 v
  | .rdUart16550Iir => rdRaw .uart16550 0x08
  | .wrUart16550Fcr v => wrRaw .uart16550 0x08 v
  | .rdUart16550Lcr => rdRaw .uart16550 0x0C
  | .wrUart16550Lcr v => wrRaw .uart16550 0x0C v
  | .rdUart16550Lsr => rdRaw .uart16550 0x14
  | .wrUart16550Lsr v => wrRaw .uart16550 0x14 v
  | .evUart16550RxChar b => evRaw .uart16550 1 (b.setWidth 32)
  | .evUart16550SetMap sel => evRaw .uart16550 2 (boolWord sel)
  | .evUart16550Reset => evRaw .uart16550 0 0
  | .rdSpiControl => rdRaw .spi 0x00
  | .wrSpiControl v => wrRaw .spi 0x00 v
  | .rdSpiData => rdRaw .spi 0x04
  | .wrSpiData v => wrRaw .spi 0x04 v
  | .rdSpiStatus => rdRaw .spi 0x08
  | .wrSpiStatus v => wrRaw .spi 0x08 v
  | .evSpiRxChar b => evRaw .spi 1 (b.setWidth 32)
  | .evSpiReset => evRaw .spi 0 0
  | .rdI2cControl => rdRaw .i2c 0x00
  | .wrI2cControl v => wrRaw .i2c 0x00 v
  | .rdI2cData => rdRaw .i2c 0x04
  | .wrI2cData v => wrRaw .i2c 0x04 v
  | .rdI2cStatus => rdRaw .i2c 0x08
  | .wrI2cStatus v => wrRaw .i2c 0x08 v
  | .rdI2cClockDiv => rdRaw .i2c 0x0C
  | .wrI2cClockDiv v => wrRaw .i2c 0x0C v
  | .evI2cRxChar b => evRaw .i2c 1 (b.setWidth 32)
  | .evI2cReset => evRaw .i2c 0 0
  | .rdTimerControl => rdRaw .timer 0x00
  | .wrTimerControl v => wrRaw .timer 0x00 v
  | .rdTimerValue => rdRaw .timer 0x04
  | .wrTimerValue v => wrRaw .timer 0x04 v
  | .rdTimerReload => rdRaw .timer 0x08
  | .wrTimerReload v => wrRaw .timer 0x08 v
  | .rdTimerPrescaler => rdRaw .timer 0x0C
  | .wrTimerPrescaler v => wrRaw .timer 0x0C v
  | .rdTimerStatus => rdRaw .timer 0x10
  | .wrTimerStatus v => wrRaw .timer 0x10 v
  | .rdTimerCmpTarget k => rdRaw .timer (cmpOffset k 0x0)
  | .wrTimerCmpTarget k v => wrRaw .timer (cmpOffset k 0x0) v
  | .rdTimerCmpCtrl k => rdRaw .timer (cmpOffset k 0x4)
  | .wrTimerCmpCtrl k v => wrRaw .timer (cmpOffset k 0x4) v
  | .evTimerTick => evRaw .timer 1 0
  | .evTimerReset => evRaw .timer 0 0
  | .rdDmaControl => rdRaw .dma 0x00
  | .wrDmaControl v => wrRaw .dma 0x00 v
  | .rdDmaChSrc n => rdRaw .dma (chOffset n 0x00)
  | .wrDmaChSrc n v => wrRaw .dma (chOffset n 0x00) v
  | .rdDmaChDst n => rdRaw .dma (chOffset n 0x04)
  | .wrDmaChDst n v => wrRaw .dma (chOffset n 0x04) v
  | .rdDmaChCount n => rdRaw .dma (chOffset n 0x08)
  | .wrDmaChCount n v => wrRaw .dma (chOffset n 0x08) v
  | .rdDmaChCtrl n => rdRaw .dma (chOffset n 0x0C)
  | .wrDmaChCtrl n v => wrRaw .dma (chOffset n 0x0C) v
  | .evDmaReq ch => evRaw .dma 1 (ch.setWidth 32)
  | .evDmaReset => evRaw .dma 0 0
  | .rdIntcEnable => rdRaw .intc 0x00
  | .wrIntcEnable v => wrRaw .intc 0x00 v
  | .rdIntcPending => rdRaw .intc 0x04
  | .wrIntcPending v => wrRaw .intc 0x04 v
  | .rdIntcPriority n => rdRaw .intc (prioOffset n)
  | .wrIntcPriority n v => wrRaw .intc (prioOffset n) v
  | .evIntcSrc src level => evRaw .intc 1 (levelPayload src level)
  | .evIntcReset => evRaw .intc 0 0
  | .opRbRead bank off => opRaw 0x001 (windowWord bank) [off]
  | .opRbWrite bank off v => opRaw 0x002 (windowWord bank) [off, v]
  | .opRbReset bank => opRaw 0x003 (windowWord bank) []
  | .opRbDefine bank => opRaw 0x004 0 (bankWords bank)
  | .opFifoPush q b => opRaw 0x010 (fifoWord q) [b.setWidth 32]
  | .opFifoPop q => opRaw 0x011 (fifoWord q) []
  | .opFifoCount q => opRaw 0x012 (fifoWord q) []
  | .opFifoIsFull q => opRaw 0x013 (fifoWord q) []
  | .opFifoIsEmpty q => opRaw 0x014 (fifoWord q) []
  | .opFifoClear q => opRaw 0x015 (fifoWord q) []
  | .opLineSet line level => opRaw 0x020 (windowWord line) [boolWord level]
  | .opAggOr line sources => opRaw 0x021 (windowWord line) (sources.map wordOfSource)
  | .opAggPrio line sources => opRaw 0x022 (windowWord line) (sources.map wordOfSource)
  | .opAggSnapshot sources => opRaw 0x023 0 (sources.map wordOfSource)
  | .opTchTick => opRaw 0x030 0 []
  | .opTchStart => opRaw 0x031 0 []
  | .opTchStop => opRaw 0x032 0 []
  | .opCmpEval k => opRaw 0x033 (k.setWidth 32) []
  | .opDchConfigure c src dst count => opRaw 0x040 (c.setWidth 32) [src, dst, count]
  | .opDchSetEnabled c b => opRaw 0x041 (c.setWidth 32) [boolWord b]
  | .opDchTrigger c => opRaw 0x042 (c.setWidth 32) []
  | .opDmaRequest n => opRaw 0x043 n []
  | .opSerDataWrite core b => opRaw 0x050 (serialWord core) [b.setWidth 32]
  | .opSerDataRead core => opRaw 0x051 (serialWord core) []
  | .opSerRxChar core b => opRaw 0x052 (serialWord core) [b.setWidth 32]
  | .opSerDrain core => opRaw 0x053 (serialWord core) []

/-- The mapping under which an instruction's key reaches its Register (R120): every key but four pairs decodes the same
under both. -/
def Instr.mapping : Instr → MapWhen
  | .rdUart16550Rbr | .wrUart16550Thr _ | .rdUart16550Ier | .wrUart16550Ier _ => .sel0
  | .rdUart16550Dll | .wrUart16550Dll _ | .rdUart16550Dlh | .wrUart16550Dlh _ => .sel1
  | _ => .always

/-- Is a Register or an instruction of this mapping active under `map_sel` (R49)? -/
def MapWhen.active (m : MapWhen) (mapSel : Bool) : Bool :=
  match m with
  | .always => true
  | .sel0 => !mapSel
  | .sel1 => mapSel

end Sys2Proof
end

