-- ==== Sys2Proof/Machine/State.lean ====
section
/-! DEFINITION. The state of the block as plain data: every piece of R21 to R84 under the window that owns it (R19), the external memory (R32), the interrupt lines (R26), and four fields of the model's own (`cfg`, `input`, `trace`, `result`; logs 1, 2, 3). Its value at reset (R85, R521, R522). The reasons a step can stop. -/

namespace Sys2Proof.Machine

/-! ## Observations (R13, R14, R123) -/

/-- The warning codes of R123, with the `info` R481 to R483 record. -/
inductive Warning where
  | oorRead (off : Nat)
  | oorWrite (off : Nat)
  | badChannel (ch : Nat)
  | badPin (pin : Nat)
  | badSource (src : Nat)
  | zeroDiv
  | rxEmpty
  | overrun
  | txDrop
deriving DecidableEq, Repr

/-- The entries of the output trace (R13, R121). -/
inductive Output where
  | notify (line : Window) (level : Bool)
  | tx (w : Serial) (b : Byte)
  | memcopy (src dst n : Word)
  | warn (c : Warning)
deriving DecidableEq, Repr

/-- What a stimulus returns to its issuer (R14, R111, R171 to R175, R197). -/
inductive Result where
  | nothing
  | word (v : Word)
  | bool (b : Bool)
  | byte (b : Option Byte)
  | count (n : Nat)
  | winner (i : Option Nat)
deriving DecidableEq, Repr

/-! ## Component state, window by window -/

/-- GPIO (R36): one bit per pin in each vector. -/
structure Gpio where
  /-- `gpio.in`, hidden (R31 (d)) -/
  inp  : Word
  out  : Word
  dir  : Word
  ie   : Word
  is   : Word
  it   : Word
  ip   : Word
  edge : Word
deriving DecidableEq, Repr

/-- The two FIFOQueues (oldest byte first, R25) and the latched overrun flag of a serial window (R34, R290). -/
structure Port where
  tx      : List Byte
  rx      : List Byte
  overrun : Bool
deriving DecidableEq, Repr

/-- UART (R44 to R48). -/
structure Uart where
  port   : Port
  txEn   : Bool
  rxEn   : Bool
  txIe   : Bool
  rxIe   : Bool
  ovrIe  : Bool
  rxTrig : BitVec 5
  txTrig : BitVec 5
  /-- `UART.BAUD.DIV` -/
  div    : BitVec 16
deriving DecidableEq, Repr

/-- UART16550 (R49 to R57); `port.overrun` is `u16.oe`. -/
structure Uart16550 where
  port   : Port
  /-- `map_sel`, hidden (R31 (c)) -/
  mapSel : Bool
  dll    : Byte
  dlh    : Byte
  erbfi  : Bool
  etbei  : Bool
  elsi   : Bool
  /-- `fcr_fifo_en` -/
  fifoEn : Bool
  /-- `fcr_trig` -/
  trig   : BitVec 2
  lcr    : Byte
deriving DecidableEq, Repr

/-- SPI (R58 to R61). -/
structure Spi where
  port     : Port
  en       : Bool
  loopback : Bool
  mode     : BitVec 2
  txIe     : Bool
  rxIe     : Bool
  ovrIe    : Bool
  rxTrig   : BitVec 5
  txTrig   : BitVec 5
deriving DecidableEq, Repr

/-- I2C (R62 to R66). -/
structure I2c where
  port      : Port
  en        : Bool
  start     : Bool
  stop      : Bool
  ack       : Bool
  txIe      : Bool
  rxIe      : Bool
  ovrIe     : Bool
  slaveAddr : BitVec 7
  rxTrig    : BitVec 5
  txTrig    : BitVec 5
  /-- `I2C.CLOCKDIV.DIV` -/
  div       : BitVec 16
deriving DecidableEq, Repr

/-- A CompareChannel (R29, R31 (b)). -/
structure Cmp where
  target  : Word
  en      : Bool
  pending : Bool
  armed   : Bool
deriving DecidableEq, Repr

/-- The TimerChannel and its compare channels, `N_CMP` of them (R28, R67). -/
structure Timer where
  running    : Bool
  value      : Word
  limit      : Word
  prescaler  : Word
  oneshot    : Bool
  ovfPending : Bool
  ovfIe      : Bool
  /-- `presc_cnt`, hidden, a natural number (R31 (a)) -/
  prescCnt   : Nat
  cmp        : List Cmp
deriving DecidableEq, Repr

/-- A DMAChannel (R30). -/
structure DmaChannel where
  src     : Word
  dst     : Word
  count   : Word
  enabled : Bool
  ie      : Bool
  pending : Bool
deriving DecidableEq, Repr

/-- The DMA controller: `dma.en` and `N_DMA_CH` channels (R75, R76). -/
structure Dma where
  en : Bool
  ch : List DmaChannel
deriving DecidableEq, Repr

/-- INTC (R81): one bit per source in `enable` and `pending`, `N_IRQ_SRC` priorities. -/
structure Intc where
  enable  : Word
  pending : Word
  prio    : List Byte
deriving DecidableEq, Repr

/-- The eight InterruptLines, one level each (R26, R202). -/
structure Lines where
  gpio      : Bool
  uart      : Bool
  uart16550 : Bool
  spi       : Bool
  i2c       : Bool
  timer     : Bool
  dma       : Bool
  intc      : Bool
deriving DecidableEq, Repr

/-- The external memory: (address, byte) pairs in canonical form (`Memory.wf`, Machine/Ops.lean; R32, log 4). -/
abbrev Memory := List Host.Cell

/-- The state of the block. -/
structure State where
  /-- the parameters of R8, configuration and not state (R33); no step writes them (log 3) -/
  cfg    : Config
  gpio   : Gpio
  uart   : Uart
  u16    : Uart16550
  spi    : Spi
  i2c    : I2c
  timer  : Timer
  dma    : Dma
  intc   : Intc
  lines  : Lines
  /-- `Mem` (R32) -/
  mem    : Memory
  /-- the stimuli issued and not yet taken, first one first (the model's own, log 1) -/
  input  : List RawStimulus
  /-- the output trace, oldest entry first (R14; the model's own, log 2) -/
  trace  : List Output
  /-- what the last stimulus returned (R14; the model's own, log 2) -/
  result : Result
deriving DecidableEq, Repr

/-! ## Why a step stops -/

/-- The codes of `fatal`, one per clause of R153 (R484). -/
inductive FatalCode where
  | fOffset | fDupOffset | fFieldRange | fOverlap | fResetWidth | fReservedNonzero
deriving DecidableEq, Repr

/-- Faults. -/
inductive Fault where
  /-- Raised by `OP RB.DEFINE` on an ill-formed bank: "caught at register-definition time, fatal at construction"
  (R153, R484, U15). Safe: the spec itself stops here. -/
  | definition (code : FatalCode)
deriving DecidableEq, Repr

/-- Refusals. -/
inductive Refusal where
  /-- An instruction without a meaning; raised by no arm of `exec` now. Safe: nothing is claimed of it. -/
  | notModelled (mnemonic : String)
  /-- Raised by `step` on a raw stimulus that spells none (R119 (f), U8: "a model's decoder refuses them"). Safe: such a key
  cannot occur on a real bus. -/
  | notAStimulus (why : DecodeError)
  /-- Raised by a DMA transfer whose source or destination range touches a register window ("a model refuses such a
  launch", R97, U7). Safe: the spec gives such a launch no meaning. -/
  | dmaTouchesWindow
deriving DecidableEq, Repr

/-! ## Reset (R85, R521, R522) -/

/-- An empty pair of queues, no overrun (R25, R34). -/
def Port.empty : Port := ⟨[], [], false⟩

/-- A CompareChannel after reset (R29, R31 (b)). -/
def Cmp.reset : Cmp := ⟨0, false, false, true⟩

/-- A DMAChannel after reset (R30). -/
def DmaChannel.reset : DmaChannel := ⟨0, 0, 0, false, false, false⟩

/-- The state right after power-on of a block built with the parameters `c` (R522: it equals the reset state, R85). -/
def State.powerOn (c : Config) : State where
  cfg    := c
  gpio   := ⟨0, 0, 0, 0, 0, 0, 0, 0⟩
  uart   := ⟨Port.empty, false, false, false, false, false, 1, 0, 1⟩
  u16    := ⟨Port.empty, false, 0, 0, false, false, false, false, 0, 0⟩
  spi    := ⟨Port.empty, false, false, 0, false, false, false, 1, 0⟩
  i2c    := ⟨Port.empty, false, false, false, false, false, false, false, 0, 1, 0, 1⟩
  timer  := ⟨false, 0, 0, 1, false, false, false, 0, List.replicate c.nCmp Cmp.reset⟩
  dma    := ⟨false, List.replicate c.nDmaCh DmaChannel.reset⟩
  intc   := ⟨0, 0, List.replicate c.nIrqSrc 0⟩
  lines  := ⟨false, false, false, false, false, false, false, false⟩
  mem    := []
  input  := []
  trace  := []
  result := .nothing

/-- The machine right after reset, with the default parameters of R8. -/
def State.reset : State := State.powerOn Config.default

end Sys2Proof.Machine
end

