-- ==== Sys2Proof/Machine/Operands.lean ====
section
/-! DEFINITION. Operand forms: extracting a field from a written word and packing one into a read word (R116), the mask of the implemented bits (R320), window sizes (R9), and the entries an index operand reaches (R115 (3), R117). -/

namespace Sys2Proof.Machine

/-- `mask(w)` of R10 as a word. -/
def maskWord (w : Nat) : Word := BitVec.ofNat 32 (2 ^ w - 1)

/-- The sub-value a write gives a field: `(v >> lo) & mask(w)` (R116). -/
def extractField (v : Word) (lo w : Nat) : Word := (v >>> lo) &&& maskWord w

/-- What a field's value adds to a read: `(x & mask(w)) << lo` (R116). -/
def packField (x : Word) (lo w : Nat) : Word := (x &&& maskWord w) <<< lo

/-- A one-bit field at bit `i` of a read word. -/
def flagAt (b : Bool) (i : Nat) : Word := boolWord b <<< i

/-- A field of `n` bits at bit `lo` of a read word. -/
def fieldAt {n : Nat} (x : BitVec n) (lo : Nat) : Word := x.setWidth 32 <<< lo

/-- Replace one bit of a vector register. -/
def setBit (v : Word) (i : Nat) (b : Bool) : Word :=
  if b then v ||| ((1 : Word) <<< i) else v &&& ~~~((1 : Word) <<< i)

/-- `M = mask(N_GPIO)` (R320). -/
def gpioMask (c : Config) : Word := maskWord c.nGpio

/-- `mask(N_IRQ_SRC)` (R460). -/
def irqMask (c : Config) : Word := maskWord c.nIrqSrc

/-- `Size(W)` in bytes (R9). -/
def windowSize (c : Config) : Window → Nat
  | .gpio => if c.gpioExt then 0x1C else 0x08
  | .uart => 0x10
  | .uart16550 => 0x18
  | .spi => 0x0C
  | .i2c => 0x10
  | .timer => 0x20 + 0x10 * c.nCmp
  | .dma => 0x100 + 0x20 * c.nDmaCh
  | .intc => 0x100 + 4 * c.nIrqSrc

/-- The offset of register `r` of compare block `k` (R73, R74). -/
def cmpOff (k r : Nat) : Nat := 0x20 + 0x10 * k + r

/-- The offset of register `r` of DMA channel block `n` (R77 to R80). -/
def chOff (n r : Nat) : Nat := 0x100 + 0x20 * n + r

/-- The offset of priority register `n` (R84). -/
def prioOff (n : Nat) : Nat := 0x100 + 4 * n

/-- Compare channel `k`, when the block has it: `k < N_CMP` (R115 (3), R117). -/
def cmpAt (s : State) (k : Nat) : Option Cmp :=
  if k < s.cfg.nCmp then s.timer.cmp[k]? else none

/-- DMA channel `n`, when the block has it: `n < N_DMA_CH` (R115 (3), R117). -/
def chanAt (s : State) (n : Nat) : Option DmaChannel :=
  if n < s.cfg.nDmaCh then s.dma.ch[n]? else none

/-- The priority of source `n`, when the block has it: `n < N_IRQ_SRC` (R115 (3), R117). -/
def prioAt (s : State) (n : Nat) : Option Byte :=
  if n < s.cfg.nIrqSrc then s.intc.prio[n]? else none

/-- Replace compare channel `k`. -/
def setCmp (s : State) (k : Nat) (c : Cmp) : State :=
  { s with timer := { s.timer with cmp := s.timer.cmp.set k c } }

/-- Replace DMA channel `n`. -/
def setChan (s : State) (n : Nat) (c : DmaChannel) : State :=
  { s with dma := { s.dma with ch := s.dma.ch.set n c } }

/-- The port of a serial window (R290). -/
def portOf (w : Serial) (s : State) : Port :=
  match w with
  | .uart => s.uart.port
  | .uart16550 => s.u16.port
  | .spi => s.spi.port
  | .i2c => s.i2c.port

/-- Replace the port of a serial window. -/
def setPort (w : Serial) (p : Port) (s : State) : State :=
  match w with
  | .uart => { s with uart := { s.uart with port := p } }
  | .uart16550 => { s with u16 := { s.u16 with port := p } }
  | .spi => { s with spi := { s.spi with port := p } }
  | .i2c => { s with i2c := { s.i2c with port := p } }

/-- The queue an operand `q` names. -/
def fifoOf (q : FifoId) (s : State) : List Byte :=
  match q.dir with
  | .tx => (portOf q.core s).tx
  | .rx => (portOf q.core s).rx

/-- Replace the queue an operand `q` names. -/
def setFifo (q : FifoId) (buf : List Byte) (s : State) : State :=
  match q.dir with
  | .tx => setPort q.core { portOf q.core s with tx := buf } s
  | .rx => setPort q.core { portOf q.core s with rx := buf } s

/-- The window of a serial core. -/
def serialWindow : Serial → Window
  | .uart => .uart
  | .uart16550 => .uart16550
  | .spi => .spi
  | .i2c => .i2c

end Sys2Proof.Machine
end

