-- ==== Sys2Proof/Machine/Flags.lean ====
section
/-! DEFINITION. Every flag and condition the block computes (R34): queue levels (R173 to R175, R178, R298), the binding of the serial core and its threshold conditions (R291, R299, R300), the interrupt sources of each window and their two aggregations (R193 to R200), the identification and status words of the serial windows, GPIO detection (R342). -/

namespace Sys2Proof.Machine

/-! ## Queues (R173 to R175) -/

/-- `IsFull`: the count equals the capacity (R174). -/
def isFull (cap : Nat) (q : List Byte) : Bool := q.length == cap

/-- `IsEmpty` (R175). -/
def isEmpty (q : List Byte) : Bool := q.length == 0

/-! ## The serial core's binding (R291) -/

/-- `s.tx_on`: does the transmitter drain? -/
def txOn (w : Serial) (s : State) : Bool :=
  match w with
  | .uart => s.uart.txEn
  | .uart16550 => true
  | .spi => s.spi.en
  | .i2c => s.i2c.en

/-- `s.rx_on`: does the receiver accept? -/
def rxOn (w : Serial) (s : State) : Bool :=
  match w with
  | .uart => s.uart.rxEn
  | .uart16550 => true
  | .spi => s.spi.en
  | .i2c => s.i2c.en

/-- `trig(fcr_trig)`: 1, 4, 8, 14 for codes 0 to 3 (R55, R378). -/
def trigLevel (code : BitVec 2) : Nat :=
  match code.toNat with
  | 0 => 1
  | 1 => 4
  | 2 => 8
  | _ => 14

/-- `s.rx_level`. -/
def rxLevel (w : Serial) (s : State) : Nat :=
  match w with
  | .uart => s.uart.rxTrig.toNat
  | .uart16550 => trigLevel s.u16.trig
  | .spi => s.spi.rxTrig.toNat
  | .i2c => s.i2c.rxTrig.toNat

/-- `s.tx_level`; for the UART16550 it is 0, "empty". -/
def txLevel (w : Serial) (s : State) : Nat :=
  match w with
  | .uart => s.uart.txTrig.toNat
  | .uart16550 => 0
  | .spi => s.spi.txTrig.toNat
  | .i2c => s.i2c.txTrig.toNat

/-- `s.policy`: `OVR_POLICY(W)` (R8). -/
def policyOf (w : Serial) (c : Config) : OvrPolicy :=
  match w with
  | .uart => c.ovrUart
  | .uart16550 => c.ovrU16
  | .spi => c.ovrSpi
  | .i2c => c.ovrI2c

/-- `s.loopback`: only the SPI has it (R291, R390). -/
def loopbackOn (w : Serial) (s : State) : Bool :=
  match w with
  | .spi => s.spi.loopback
  | _ => false

/-- The TX threshold condition: `tx.Count <= tx_level` (R300). -/
def txThreshold (w : Serial) (s : State) : Bool :=
  (portOf w s).tx.length ≤ txLevel w s

/-- The RX threshold condition: `rx.Count >= rx_level` (R300). -/
def rxThreshold (w : Serial) (s : State) : Bool :=
  rxLevel w s ≤ (portOf w s).rx.length

/-- The status word shared by UART, SPI and I2C (R46, R352). -/
def statusWord (cap : Nat) (p : Port) : Word :=
  flagAt (isEmpty p.tx) 0 ||| flagAt (isFull cap p.tx) 1 ||| flagAt (isEmpty p.rx) 2 |||
    flagAt (isFull cap p.rx) 3 ||| flagAt p.overrun 4

/-- The line-status word of the UART16550 (R57, R383). -/
def lsrWord (p : Port) : Word :=
  flagAt (!isEmpty p.rx) 0 ||| flagAt p.overrun 1 ||| flagAt (isEmpty p.tx) 5 ||| flagAt (isEmpty p.tx) 6

/-- The low bits of `IIR`: fixed priority line status, received data, transmitter empty (R378). -/
def iirLow (s : State) : Word :=
  if s.u16.elsi && s.u16.port.overrun then 0x06
  else if s.u16.erbfi && rxThreshold .uart16550 s then 0x04
  else if s.u16.etbei && isEmpty s.u16.port.tx then 0x02
  else 0x01

/-- The `IIR` word (R54, R378). -/
def iirWord (s : State) : Word :=
  iirLow s ||| (if s.u16.fifoEn then 0xC0 else 0x00)

/-! ## Sources and aggregation (R193 to R200) -/

/-- A source qualifies when `enable and pending` (R193). -/
def qualifies (x : Source) : Bool := x.enable && x.pending

/-- A source of an OR window. -/
def orSource (enable pending : Bool) : Source := ⟨enable, pending, 0⟩

/-- The sources of each window as (enable, pending) and priority: the table of R200. -/
def sources (w : Window) (s : State) : List Source :=
  match w with
  | .gpio =>
    if s.cfg.gpioExt then
      (List.range s.cfg.nGpio).map (fun i => orSource (s.gpio.ie.getLsbD i) (s.gpio.is.getLsbD i))
    else []
  | .uart =>
    [orSource s.uart.txIe (txThreshold .uart s), orSource s.uart.rxIe (rxThreshold .uart s),
      orSource s.uart.ovrIe s.uart.port.overrun]
  | .uart16550 =>
    [orSource s.u16.elsi s.u16.port.overrun, orSource s.u16.erbfi (rxThreshold .uart16550 s),
      orSource s.u16.etbei (isEmpty s.u16.port.tx)]
  | .spi =>
    [orSource s.spi.txIe (txThreshold .spi s), orSource s.spi.rxIe (rxThreshold .spi s),
      orSource s.spi.ovrIe s.spi.port.overrun]
  | .i2c =>
    [orSource s.i2c.txIe (txThreshold .i2c s), orSource s.i2c.rxIe (rxThreshold .i2c s),
      orSource s.i2c.ovrIe s.i2c.port.overrun]
  | .timer =>
    orSource s.timer.ovfIe s.timer.ovfPending :: s.timer.cmp.map (fun c => orSource c.en c.pending)
  | .dma => s.dma.ch.map (fun c => orSource c.ie c.pending)
  | .intc =>
    (List.range s.cfg.nIrqSrc).map
      (fun i => ⟨s.intc.enable.getLsbD i, s.intc.pending.getLsbD i, s.intc.prio.getD i 0⟩)

/-- OR-aggregation: does some source qualify (R194)? -/
def orOf (ss : List Source) : Bool := ss.any qualifies

/-- `Q` of R197: the qualifying sources with their indices, ascending. -/
def qualifying (ss : List Source) : List (Source × Nat) :=
  ss.zipIdx.filter (fun p => qualifies p.1)

/-- Priority arbitration: the largest priority among the qualifying sources, ties to the lowest index (R196, R197). -/
def winner (ss : List Source) : Option Nat :=
  match ((qualifying ss).map (fun p => p.1.prio.toNat)).max? with
  | none => none
  | some p => ((qualifying ss).find? (fun x => x.1.prio.toNat == p)).map (fun x => x.2)

/-- The snapshot word from index `i` on. -/
def snapshotFrom (i : Nat) : List Source → Word
  | [] => 0
  | x :: xs => (boolWord x.pending <<< i) ||| snapshotFrom (i + 1) xs

/-- The snapshot of all pending bits: bit `i` is source `i` pending (R199). -/
def snapshot (ss : List Source) : Word := snapshotFrom 0 ss

/-- The level a window's aggregation gives its line (R200). -/
def lineLevel (w : Window) (s : State) : Bool :=
  match w with
  | .intc => (winner (sources .intc s)).isSome
  | _ => orOf (sources w s)

/-- `intc.winner`, the computed output (R33, R202, R468). -/
def intcWinner (s : State) : Option Nat := winner (sources .intc s)

/-- Line `i` of the one-hot bundle that R203 derives from the one line and the winner. -/
def intcOneHot (s : State) (i : Nat) : Bool := s.lines.intc && (intcWinner s == some i)

/-- The level of a line. -/
def lineOf (w : Window) (s : State) : Bool :=
  match w with
  | .gpio => s.lines.gpio
  | .uart => s.lines.uart
  | .uart16550 => s.lines.uart16550
  | .spi => s.lines.spi
  | .i2c => s.lines.i2c
  | .timer => s.lines.timer
  | .dma => s.lines.dma
  | .intc => s.lines.intc

/-- Set the level of a line, without notification. -/
def setLine (w : Window) (b : Bool) (s : State) : State :=
  match w with
  | .gpio => { s with lines := { s.lines with gpio := b } }
  | .uart => { s with lines := { s.lines with uart := b } }
  | .uart16550 => { s with lines := { s.lines with uart16550 := b } }
  | .spi => { s with lines := { s.lines with spi := b } }
  | .i2c => { s with lines := { s.lines with i2c := b } }
  | .timer => { s with lines := { s.lines with timer := b } }
  | .dma => { s with lines := { s.lines with dma := b } }
  | .intc => { s with lines := { s.lines with intc := b } }

/-! ## GPIO -/

/-- `detect(pin, old, new)` (R342). -/
def detect (g : Gpio) (pin : Nat) (old new : Bool) : Bool :=
  match g.it.getLsbD pin, g.edge.getLsbD pin, g.ip.getLsbD pin with
  | false, _, true => new
  | false, _, false => !new
  | true, true, _ => old != new
  | true, false, true => !old && new
  | true, false, false => old && !new

/-- What `GPIO.DATA` reads (R37, R321). -/
def gpioDataWord (c : Config) (g : Gpio) : Word :=
  ((g.out &&& g.dir) ||| (g.inp &&& ~~~g.dir)) &&& gpioMask c

end Sys2Proof.Machine
end

