-- ==== Sys2Proof/Machine/Ops.lean ====
section
/-! DEFINITION. The named operations the meanings share: outputs and results (R13, R14), the external memory and `MemCopy` (R96), the FIFOQueue (R171 to R176), the InterruptLine and `UpdateInterrupts` (R191, R200), the TimerChannel (R222 to R230), the DMAChannel (R263 to R268), the serial core (R293 to R297), the reset pieces (R152, R520). -/

namespace Sys2Proof.Machine

/-! ## Outputs, results, completion -/

/-- Append one entry to the output trace (R14). -/
def emit (o : Output) (s : State) : State := { s with trace := s.trace ++ [o] }

/-- `warn(code, info)`: a trace entry, no other change (R13, R123). -/
def warn (c : Warning) (s : State) : State := emit (.warn c) s

/-- Set what the stimulus returns (R14). -/
def ret (r : Result) (s : State) : State := { s with result := r }

/-- A stimulus that returns nothing completes. -/
def done (s : State) : Host.Outcome State Fault Refusal := .next (ret .nothing s)

/-- A stimulus completes with a 32-bit value. -/
def doneWord (v : Word) (s : State) : Host.Outcome State Fault Refusal := .next (ret (.word v) s)

/-- Go on after an operation that may stop. -/
def andThen (o : Host.Outcome State Fault Refusal) (f : State → Host.Outcome State Fault Refusal) :
    Host.Outcome State Fault Refusal :=
  match o with
  | .next s => f s
  | .fault r => .fault r
  | .refused r => .refused r

/-- An unmatched read returns 0 and warns; nothing else changes (R144). -/
def unmatchedRead (off : Nat) (s : State) : Host.Outcome State Fault Refusal :=
  doneWord 0 (warn (.oorRead off) s)

/-- An unmatched write is ignored and warns (R148). -/
def unmatchedWrite (off : Nat) (s : State) : Host.Outcome State Fault Refusal :=
  done (warn (.oorWrite off) s)

/-! ## External memory (R32, R96; log 4) -/

/-- What an address the list does not hold reads as (log 4). -/
def unlistedByte : Byte := 0

/-- One byte of `Mem`. -/
def memRead : Memory → Nat → Byte
  | [], _ => unlistedByte
  | (a, b) :: m, x => if a = x then b else memRead m x

/-- Take the entry of an address out of the list. -/
def memErase : Memory → Nat → Memory
  | [], _ => []
  | (a, b) :: m, x => if a = x then m else (a, b) :: memErase m x

/-- Put an entry in its place in the list. -/
def memInsert : Memory → Nat → Byte → Memory
  | [], x, v => [(x, v)]
  | (a, b) :: m, x, v =>
    if x < a then (x, v) :: (a, b) :: m
    else if a = x then (x, v) :: m
    else (a, b) :: memInsert m x v

/-- Store one byte, keeping the canonical form: the byte an unlisted address reads as is not listed. -/
def memWrite (m : Memory) (x : Nat) (v : Byte) : Memory :=
  if v = unlistedByte then memErase m x else memInsert m x v

/-- The canonical form: addresses strictly rising from `lo` on and below 2^32, no entry equal to what an unlisted address reads as. -/
def memWfFrom : Nat → Memory → Bool
  | _, [] => true
  | lo, (a, b) :: m => lo ≤ a && a < 2 ^ 32 && b != unlistedByte && memWfFrom (a + 1) m

/-- The canonical form holds. -/
def Memory.wf (m : Memory) : Bool := memWfFrom 0 m

/-- The address `a + i` modulo 2^32 (R11, R96). -/
def addrPlus (a : Word) (i : Nat) : Nat := (a + BitVec.ofNat 32 i).toNat

/-- The loop of `MemCopy`: the bytes come from the snapshot `old`. -/
def copyBytes (old : Memory) (src dst : Word) : Nat → Memory → Memory
  | 0, m => m
  | n + 1, m => memWrite (copyBytes old src dst n m) (addrPlus dst n) (memRead old (addrPlus src n))

/-- `MemCopy(src, dst, n)` on `Mem` (R96). -/
def memCopy (m : Memory) (src dst n : Word) : Memory := copyBytes m src dst n.toNat m

/-- Do the byte ranges of `n` bytes from `a` and `k` bytes from `b` meet, modulo 2^32? -/
def rangesMeet (a : Word) (n : Nat) (b : Word) (k : Nat) : Bool :=
  (b - a).toNat < n || (a - b).toNat < k

/-- Does a transfer touch a register window the platform has placed in the address space of `Mem` (R97, U7, log 13)? -/
def touchesWindow (c : Config) (src dst n : Word) : Bool :=
  c.bases.any (fun p =>
    rangesMeet src n.toNat p.2 (windowSize c p.1) || rangesMeet dst n.toNat p.2 (windowSize c p.1))

/-! ## FIFOQueue (R171 to R176) -/

/-- `FIFO.PUSH`: was the byte taken, and the queue after (R171). -/
def fifoPush (cap : Nat) (q : List Byte) (b : Byte) : Bool × List Byte :=
  if q.length = cap then (false, q) else (true, q ++ [b])

/-- `FIFO.POP`: the oldest byte if any, and the queue after (R172). -/
def fifoPop : List Byte → Option Byte × List Byte
  | [] => (none, [])
  | b :: q => (some b, q)

/-- `FIFO.PUSH` on a queue of the block. -/
def pushFifo (q : FifoId) (b : Byte) (s : State) : Bool × State :=
  let r := fifoPush s.cfg.fifoCap (fifoOf q s) b
  (r.1, setFifo q r.2 s)

/-- `FIFO.POP` on a queue of the block. -/
def popFifo (q : FifoId) (s : State) : Option Byte × State :=
  let r := fifoPop (fifoOf q s)
  (r.1, setFifo q r.2 s)

/-- `FIFO.CLEAR` on a queue of the block (R176). -/
def clearFifo (q : FifoId) (s : State) : State := setFifo q [] s

/-! ## InterruptLine and UpdateInterrupts -/

/-- `LINE.SET`: a change of level is notified, the level it already has is not (R191). -/
def lineSet (w : Window) (level : Bool) (s : State) : State :=
  if level ≠ lineOf w s then emit (.notify w level) (setLine w level s) else s

/-- `UpdateInterrupts(W)` (R200): the one operation by which an interrupt is asserted (R492, in the place of trap entry)
and withdrawn (R493, in the place of trap return). It saves nothing and changes no mode. -/
def updateInterrupts (w : Window) (s : State) : State := lineSet w (lineLevel w s) s

/-- The usual post-write hook: recompute the window's line, return nothing (R150, R200). -/
def hook (w : Window) (s : State) : Host.Outcome State Fault Refusal := done (updateInterrupts w s)

/-! ## TimerChannel and CompareChannel -/

/-- Re-arm every compare channel, when the policy has arming (R222, R226). -/
def rearm (armOnce : Bool) (cs : List Cmp) : List Cmp :=
  if armOnce then cs.map (fun c => { c with armed := true }) else cs

/-- `TCH.START` (R222). -/
def tchStart (armOnce : Bool) (t : Timer) : Timer :=
  if t.running then t
  else { t with running := true, prescCnt := 0, cmp := rearm armOnce t.cmp }

/-- `TCH.STOP` (R223). -/
def tchStop (t : Timer) : Timer := { t with running := false }

/-- `CMP.EVAL` of a compare channel against a timer value (R230). -/
def cmpEval (armOnce : Bool) (value : Word) (c : Cmp) : Cmp :=
  if value = c.target then
    if !armOnce || c.armed then { c with pending := true, armed := false } else c
  else c

/-- One advance of the value: limit reached or not (R226 to R228). The sum is a natural number and never wraps. -/
def tchAdvance (armOnce : Bool) (t : Timer) : Timer :=
  let v1 := t.value.toNat + 1
  if t.limit.toNat ≤ v1 then
    if t.oneshot then
      { t with ovfPending := true, value := t.limit, running := false, cmp := rearm armOnce t.cmp }
    else
      { t with ovfPending := true, value := 0, cmp := rearm armOnce t.cmp }
  else { t with value := BitVec.ofNat 32 v1 }

/-- The prescale count of one tick, and the advance when it is due (R224, R226). -/
def tchCount (armOnce : Bool) (t : Timer) : Timer :=
  if t.prescaler.toNat ≤ t.prescCnt + 1 then tchAdvance armOnce { t with prescCnt := 0 }
  else { t with prescCnt := t.prescCnt + 1 }

/-- `TCH.TICK` (R226): an idle channel ignores it, a running one counts and then evaluates every compare channel. -/
def tchTick (armOnce : Bool) (t : Timer) : Timer :=
  if t.running then
    let t1 := tchCount armOnce t
    { t1 with cmp := t1.cmp.map (cmpEval armOnce t1.value) }
  else t

/-! ## DMAChannel -/

/-- The transfer itself and the channel's flag (R266, steps 2 and 3 of R262). -/
def dmaTransfer (n : Nat) (c : DmaChannel) (s : State) : State :=
  let s1 := emit (.memcopy c.src c.dst c.count) { s with mem := memCopy s.mem c.src c.dst c.count }
  if c.ie then setChan s1 n { c with pending := true } else s1

/-- `DCH.TRIGGER` (R265, R266): a silent no-op unless enabled with a count; refused when it touches a register window (R97, U7). -/
def dchTrigger (n : Nat) (c : DmaChannel) (s : State) : Host.Outcome State Fault Refusal :=
  if !c.enabled || c.count == 0 then .next s
  else if touchesWindow s.cfg c.src c.dst c.count then .refused .dmaTouchesWindow
  else .next (updateInterrupts .dma (dmaTransfer n c s))

/-- `DMA.REQUEST` (R268): the index first, then the controller enable, then the channel. -/
def dmaRequest (n : Nat) (s : State) : Host.Outcome State Fault Refusal :=
  match chanAt s n with
  | none => .next (warn (.badChannel n) s)
  | some c => if s.dma.en then dchTrigger n c s else .next s

/-! ## Serial core -/

/-- `RXPUSH`: push on the RX queue, with the window's overrun policy when it is full (R297). -/
def rxPush (w : Serial) (b : Byte) (s : State) : State :=
  let r := pushFifo ⟨w, .rx⟩ b s
  if r.1 then r.2
  else
    let s1 := warn .overrun r.2
    match policyOf w s.cfg with
    | .rejectAndFlag => setPort w { portOf w s1 with overrun := true } s1
    | .dropSilent => s1

/-- What the drain does with one byte: transmit it, and receive it when looping back (R294). -/
def drainByte (w : Serial) (b : Byte) (s : State) : State :=
  let s1 := emit (.tx w b) s
  if loopbackOn w s1 then rxPush w b s1 else s1

/-- The bytes of a drain, oldest first. -/
def drainBytes (w : Serial) : List Byte → State → State
  | [], s => s
  | b :: bs, s => drainBytes w bs (drainByte w b s)

/-- `SER.DRAIN` (R294). Taking the bytes off the queue first is the same: nothing in the loop reads it. -/
def serDrain (w : Serial) (s : State) : State :=
  drainBytes w (portOf w s).tx (setFifo ⟨w, .tx⟩ [] s)

/-- `SER.DATAWRITE` (R293). -/
def serDataWrite (w : Serial) (b : Byte) (s : State) : State :=
  let r := pushFifo ⟨w, .tx⟩ b s
  let s1 := if r.1 then r.2 else warn .txDrop r.2
  if txOn w s1 then serDrain w s1 else s1

/-- `SER.DATAREAD`: the value of the data register and the state after (R295). -/
def serDataRead (w : Serial) (s : State) : Word × State :=
  match popFifo ⟨w, .rx⟩ s with
  | (none, s1) => (0, warn .rxEmpty s1)
  | (some b, s1) => (b.setWidth 32, s1)

/-- `SER.RXCHAR` (R297): a disabled receiver discards the byte. -/
def serRxChar (w : Serial) (b : Byte) (s : State) : State :=
  if rxOn w s then rxPush w b s else s

/-- The extra action of a control register's post-write hook: a transmitter left on drains (R303). -/
def drainIfOn (w : Serial) (s : State) : State :=
  if txOn w s then serDrain w s else s

/-- Clear the latched overrun flag of a serial window (R301). -/
def clearOverrun (w : Serial) (s : State) : State :=
  setPort w { portOf w s with overrun := false } s

/-! ## Cells written by a control register (R355, R389, R399) -/

/-- `cells(UART.CONTROL) <- v` (R47, R355). -/
def setUartControl (v : Word) (u : Uart) : Uart :=
  { u with
    txEn := v.getLsbD 0, rxEn := v.getLsbD 1, txIe := v.getLsbD 2, rxIe := v.getLsbD 3, ovrIe := v.getLsbD 4,
    rxTrig := v.extractLsb' 8 5, txTrig := v.extractLsb' 16 5 }

/-- `cells(SPI.CONTROL) <- v` (R59, R389). -/
def setSpiControl (v : Word) (u : Spi) : Spi :=
  { u with
    en := v.getLsbD 0, loopback := v.getLsbD 1, mode := v.extractLsb' 2 2, txIe := v.getLsbD 4, rxIe := v.getLsbD 5,
    ovrIe := v.getLsbD 6, rxTrig := v.extractLsb' 8 5, txTrig := v.extractLsb' 16 5 }

/-- `cells(I2C.CONTROL) <- v` (R63, R399). -/
def setI2cControl (v : Word) (u : I2c) : I2c :=
  { u with
    en := v.getLsbD 0, start := v.getLsbD 1, stop := v.getLsbD 2, ack := v.getLsbD 3, txIe := v.getLsbD 4,
    rxIe := v.getLsbD 5, ovrIe := v.getLsbD 6, slaveAddr := v.extractLsb' 8 7, rxTrig := v.extractLsb' 16 5,
    txTrig := v.extractLsb' 24 5 }

/-! ## Reset -/

/-- `RB.RESET` (R152): the field cells of a window to their declared reset values. The cells are the storage that no other
line of R520 resets (log 10). -/
def rbReset (w : Window) (s : State) : State :=
  match w with
  | .gpio => { s with gpio := { s.gpio with out := 0, dir := 0, ie := 0, it := 0, ip := 0, edge := 0 } }
  | .uart => { s with uart := { setUartControl 0x00000100 s.uart with div := 1 } }
  | .uart16550 =>
    { s with
      u16 :=
        { s.u16 with
          dll := 0, dlh := 0, erbfi := false, etbei := false, elsi := false, fifoEn := false, trig := 0, lcr := 0 } }
  | .spi => { s with spi := setSpiControl 0x00000100 s.spi }
  | .i2c => { s with i2c := { setI2cControl 0x00010000 s.i2c with div := 1 } }
  | .timer => s
  | .dma => { s with dma := { s.dma with en := false } }
  | .intc => { s with intc := { s.intc with enable := 0, prio := s.intc.prio.map (fun _ => 0) } }

/-- Clear both queues and the overrun latch of a serial window (R520). -/
def portReset (w : Serial) (s : State) : State := setPort w ⟨[], [], false⟩ s

/-- A CompareChannel to its reset values (R29, R441). -/
def cmpReset (_ : Cmp) : Cmp := ⟨0, false, false, true⟩

/-- The TimerChannel and its compare channels to their reset values (R28, R29, R441). -/
def timerReset (t : Timer) : Timer :=
  { running := false, value := 0, limit := 0, prescaler := 1, oneshot := false, ovfPending := false, ovfIe := false,
    prescCnt := 0, cmp := t.cmp.map cmpReset }

/-- A DMAChannel to its reset values (R30, R456). -/
def chanReset (_ : DmaChannel) : DmaChannel := ⟨0, 0, 0, false, false, false⟩

end Sys2Proof.Machine
end

