-- ==== Sys2Proof/Machine/Bank.lean ====
section
/-! DEFINITION. The RegisterBank (R24, R140 to R153): the descriptor of every field of 10_state.md, the Register list of every window, the lookup (R115), the field-by-field read and write decode with their hooks (R143 to R151), and the definition-time check (R153). This is the generic view; the per-register rules of files 46 to 48 are written out in the window files. -/

namespace Sys2Proof.Machine

/-- Every field of every Register (10_state.md); a serial data or status field is named by its window, an arrayed one by its index. -/
inductive FieldId where
  | gpioData | gpioDir | gpioIe | gpioIs | gpioIt | gpioIp | gpioEdge
  | data (w : Serial)
  | txEmpty (w : Serial) | txFull (w : Serial) | rxEmpty (w : Serial) | rxFull (w : Serial) | overrun (w : Serial)
  | uartTxEn | uartRxEn | uartTxIe | uartRxIe | uartOvrIe | uartRxTrig | uartTxTrig | uartDiv
  | rbr | thr | dll | dlh | erbfi | etbei | elsi
  | iirNopend | iirId | iirFifoEn
  | fcrFifoEn | fcrRxClr | fcrTxClr | fcrRxTrig
  | lcr | lsrDr | lsrOe | lsrThre | lsrTemt
  | spiEn | spiLoopback | spiMode | spiTxIe | spiRxIe | spiOvrIe | spiRxTrig | spiTxTrig
  | i2cEn | i2cStart | i2cStop | i2cAck | i2cTxIe | i2cRxIe | i2cOvrIe | i2cSlaveAddr | i2cRxTrig | i2cTxTrig | i2cDiv
  | timerEn | timerOneshot | timerOvfIe | timerValue | timerLimit | timerPrescaler | timerOvf
  | cmpTarget (k : Nat) | cmpEn (k : Nat) | cmpPend (k : Nat)
  | dmaEn | chSrc (n : Nat) | chDst (n : Nat) | chCount (n : Nat)
  | chEn (n : Nat) | chStart (n : Nat) | chIe (n : Nat) | chIf (n : Nat)
  | intcEnable | intcPending | intcPrio (n : Nat)
deriving DecidableEq, Repr

/-- A plain cell: no callback (R141). -/
def plainCell (lo width : Byte) (reset : Word := 0) : FieldDesc := ⟨lo, width, .rw, .pure, false, false, reset⟩

/-- A read-write field whose provider and consumer address component state (R141). -/
def component (lo width : Byte) (reset : Word := 0) : FieldDesc := ⟨lo, width, .rw, .pure, true, true, reset⟩

/-- A computed read-only field. -/
def computed (lo width : Byte) (reset : Word := 0) : FieldDesc := ⟨lo, width, .ro, .pure, true, false, reset⟩

/-- A write-one-to-clear latch. -/
def latch (lo width : Byte) : FieldDesc := ⟨lo, width, .w1c, .pure, true, true, 0⟩

/-- A write-only field. -/
def writeOnly (lo width : Byte) : FieldDesc := ⟨lo, width, .wo, .pure, false, true, 0⟩

/-- The descriptor of a field: bits, mode, read effect, callbacks, declared reset value (R36 to R84, R142). A computed
field is declared with the value R85 says it reads after reset. -/
def fieldDesc (c : Config) : FieldId → FieldDesc
  | .gpioData => component 0 (BitVec.ofNat 8 c.nGpio)
  | .gpioDir => plainCell 0 (BitVec.ofNat 8 c.nGpio)
  | .gpioIe => plainCell 0 (BitVec.ofNat 8 c.nGpio)
  | .gpioIs => latch 0 (BitVec.ofNat 8 c.nGpio)
  | .gpioIt => plainCell 0 (BitVec.ofNat 8 c.nGpio)
  | .gpioIp => plainCell 0 (BitVec.ofNat 8 c.nGpio)
  | .gpioEdge => plainCell 0 (BitVec.ofNat 8 c.nGpio)
  | .data _ => ⟨0, 8, .rw, .sideEffect, true, true, 0⟩
  | .txEmpty _ => computed 0 1 1
  | .txFull _ => computed 1 1
  | .rxEmpty _ => computed 2 1 1
  | .rxFull _ => computed 3 1
  | .overrun _ => latch 4 1
  | .uartTxEn => plainCell 0 1
  | .uartRxEn => plainCell 1 1
  | .uartTxIe => plainCell 2 1
  | .uartRxIe => plainCell 3 1
  | .uartOvrIe => plainCell 4 1
  | .uartRxTrig => plainCell 8 5 1
  | .uartTxTrig => plainCell 16 5
  | .uartDiv => component 0 16 1
  | .rbr => ⟨0, 8, .ro, .sideEffect, true, false, 0⟩
  | .thr => writeOnly 0 8
  | .dll => plainCell 0 8
  | .dlh => plainCell 0 8
  | .erbfi => plainCell 0 1
  | .etbei => plainCell 1 1
  | .elsi => plainCell 2 1
  | .iirNopend => computed 0 1 1
  | .iirId => computed 1 3
  | .iirFifoEn => computed 6 2
  | .fcrFifoEn => writeOnly 0 1
  | .fcrRxClr => writeOnly 1 1
  | .fcrTxClr => writeOnly 2 1
  | .fcrRxTrig => writeOnly 6 2
  | .lcr => plainCell 0 8
  | .lsrDr => computed 0 1
  | .lsrOe => ⟨1, 1, .ro, .sideEffect, true, false, 0⟩
  | .lsrThre => computed 5 1 1
  | .lsrTemt => computed 6 1 1
  | .spiEn => plainCell 0 1
  | .spiLoopback => plainCell 1 1
  | .spiMode => plainCell 2 2
  | .spiTxIe => plainCell 4 1
  | .spiRxIe => plainCell 5 1
  | .spiOvrIe => plainCell 6 1
  | .spiRxTrig => plainCell 8 5 1
  | .spiTxTrig => plainCell 16 5
  | .i2cEn => plainCell 0 1
  | .i2cStart => plainCell 1 1
  | .i2cStop => plainCell 2 1
  | .i2cAck => plainCell 3 1
  | .i2cTxIe => plainCell 4 1
  | .i2cRxIe => plainCell 5 1
  | .i2cOvrIe => plainCell 6 1
  | .i2cSlaveAddr => plainCell 8 7
  | .i2cRxTrig => plainCell 16 5 1
  | .i2cTxTrig => plainCell 24 5
  | .i2cDiv => component 0 16 1
  | .timerEn => component 0 1
  | .timerOneshot => component 1 1
  | .timerOvfIe => component 2 1
  | .timerValue => component 0 32
  | .timerLimit => component 0 32
  | .timerPrescaler => component 0 32 1
  | .timerOvf => latch 0 1
  | .cmpTarget _ => component 0 32
  | .cmpEn _ => component 0 1
  | .cmpPend _ => latch 1 1
  | .dmaEn => plainCell 0 1
  | .chSrc _ => component 0 32
  | .chDst _ => component 0 32
  | .chCount _ => component 0 32
  | .chEn _ => component 0 1
  | .chStart _ => writeOnly 1 1
  | .chIe _ => component 2 1
  | .chIf _ => latch 3 1
  | .intcEnable => plainCell 0 (BitVec.ofNat 8 c.nIrqSrc)
  | .intcPending => computed 0 (BitVec.ofNat 8 c.nIrqSrc)
  | .intcPrio _ => plainCell 0 8

/-- A Register of a window's bank: where it stands, when it is active, its fields in ascending bit order. -/
structure Register where
  off      : Nat
  readable : Bool
  writable : Bool
  mapping  : MapWhen
  fields   : List FieldId
deriving DecidableEq, Repr

/-- A Register active in both directions under every mapping. -/
def regAt (off : Nat) (fields : List FieldId) : Register := ⟨off, true, true, .always, fields⟩

/-- The status Register shared by UART, SPI and I2C (R46). -/
def statusFields (w : Serial) : List FieldId := [.txEmpty w, .txFull w, .rxEmpty w, .rxFull w, .overrun w]

/-- The Register list of each window, both mappings included (R106). -/
def registersOf (c : Config) : Window → List Register
  | .gpio =>
    [regAt 0x00 [.gpioData], regAt 0x04 [.gpioDir]] ++
      (if c.gpioExt then
        [regAt 0x08 [.gpioIe], regAt 0x0C [.gpioIs], regAt 0x10 [.gpioIt], regAt 0x14 [.gpioIp], regAt 0x18 [.gpioEdge]]
      else [])
  | .uart =>
    [regAt 0x00 [.data .uart], regAt 0x04 (statusFields .uart),
      regAt 0x08 [.uartTxEn, .uartRxEn, .uartTxIe, .uartRxIe, .uartOvrIe, .uartRxTrig, .uartTxTrig],
      regAt 0x0C [.uartDiv]]
  | .uart16550 =>
    [⟨0x00, true, false, .sel0, [.rbr]⟩, ⟨0x00, false, true, .sel0, [.thr]⟩, ⟨0x00, true, true, .sel1, [.dll]⟩,
      ⟨0x04, true, true, .sel0, [.erbfi, .etbei, .elsi]⟩, ⟨0x04, true, true, .sel1, [.dlh]⟩,
      ⟨0x08, true, false, .always, [.iirNopend, .iirId, .iirFifoEn]⟩,
      ⟨0x08, false, true, .always, [.fcrFifoEn, .fcrRxClr, .fcrTxClr, .fcrRxTrig]⟩,
      regAt 0x0C [.lcr], regAt 0x14 [.lsrDr, .lsrOe, .lsrThre, .lsrTemt]]
  | .spi =>
    [regAt 0x00 [.spiEn, .spiLoopback, .spiMode, .spiTxIe, .spiRxIe, .spiOvrIe, .spiRxTrig, .spiTxTrig],
      regAt 0x04 [.data .spi], regAt 0x08 (statusFields .spi)]
  | .i2c =>
    [regAt 0x00 [.i2cEn, .i2cStart, .i2cStop, .i2cAck, .i2cTxIe, .i2cRxIe, .i2cOvrIe, .i2cSlaveAddr, .i2cRxTrig, .i2cTxTrig],
      regAt 0x04 [.data .i2c], regAt 0x08 (statusFields .i2c), regAt 0x0C [.i2cDiv]]
  | .timer =>
    [regAt 0x00 [.timerEn, .timerOneshot, .timerOvfIe], regAt 0x04 [.timerValue], regAt 0x08 [.timerLimit],
      regAt 0x0C [.timerPrescaler], regAt 0x10 [.timerOvf]] ++
      (List.range c.nCmp).flatMap
        (fun k => [regAt (cmpOff k 0) [.cmpTarget k], regAt (cmpOff k 4) [.cmpEn k, .cmpPend k]])
  | .dma =>
    regAt 0x00 [.dmaEn] ::
      (List.range c.nDmaCh).flatMap
        (fun n =>
          [regAt (chOff n 0x0) [.chSrc n], regAt (chOff n 0x4) [.chDst n], regAt (chOff n 0x8) [.chCount n],
            regAt (chOff n 0xC) [.chEn n, .chStart n, .chIe n, .chIf n]])
  | .intc =>
    [regAt 0x00 [.intcEnable], regAt 0x04 [.intcPending]] ++
      (List.range c.nIrqSrc).map (fun n => regAt (prioOff n) [.intcPrio n])

/-- `lookup(bank, off)` (R115, R143, R147): the Register an access of one direction reaches under the current mapping. -/
def lookup (c : Config) (mapSel : Bool) (w : Window) (isRead : Bool) (off : Nat) : Option Register :=
  if 0x1000 ≤ off ∨ off % 4 ≠ 0 ∨ windowSize c w ≤ off then none
  else
    (registersOf c w).find?
      (fun r => r.off == off && r.mapping.active mapSel && (if isRead then r.readable else r.writable))

/-- The value a field's provider or cell gives a read (R145); a write-only field contributes 0. -/
def fieldValue (f : FieldId) (s : State) : Word :=
  match f with
  | .gpioData => gpioDataWord s.cfg s.gpio
  | .gpioDir => s.gpio.dir
  | .gpioIe => s.gpio.ie
  | .gpioIs => s.gpio.is
  | .gpioIt => s.gpio.it
  | .gpioIp => s.gpio.ip
  | .gpioEdge => s.gpio.edge
  | .data w => (serDataRead w s).1
  | .txEmpty w => boolWord (isEmpty (portOf w s).tx)
  | .txFull w => boolWord (isFull s.cfg.fifoCap (portOf w s).tx)
  | .rxEmpty w => boolWord (isEmpty (portOf w s).rx)
  | .rxFull w => boolWord (isFull s.cfg.fifoCap (portOf w s).rx)
  | .overrun w => boolWord (portOf w s).overrun
  | .uartTxEn => boolWord s.uart.txEn
  | .uartRxEn => boolWord s.uart.rxEn
  | .uartTxIe => boolWord s.uart.txIe
  | .uartRxIe => boolWord s.uart.rxIe
  | .uartOvrIe => boolWord s.uart.ovrIe
  | .uartRxTrig => s.uart.rxTrig.setWidth 32
  | .uartTxTrig => s.uart.txTrig.setWidth 32
  | .uartDiv => s.uart.div.setWidth 32
  | .rbr => (serDataRead .uart16550 s).1
  | .thr => 0
  | .dll => s.u16.dll.setWidth 32
  | .dlh => s.u16.dlh.setWidth 32
  | .erbfi => boolWord s.u16.erbfi
  | .etbei => boolWord s.u16.etbei
  | .elsi => boolWord s.u16.elsi
  | .iirNopend => iirLow s &&& 1
  | .iirId => iirLow s >>> 1
  | .iirFifoEn => if s.u16.fifoEn then 3 else 0
  | .fcrFifoEn => 0
  | .fcrRxClr => 0
  | .fcrTxClr => 0
  | .fcrRxTrig => 0
  | .lcr => s.u16.lcr.setWidth 32
  | .lsrDr => boolWord (!isEmpty s.u16.port.rx)
  | .lsrOe => boolWord s.u16.port.overrun
  | .lsrThre => boolWord (isEmpty s.u16.port.tx)
  | .lsrTemt => boolWord (isEmpty s.u16.port.tx)
  | .spiEn => boolWord s.spi.en
  | .spiLoopback => boolWord s.spi.loopback
  | .spiMode => s.spi.mode.setWidth 32
  | .spiTxIe => boolWord s.spi.txIe
  | .spiRxIe => boolWord s.spi.rxIe
  | .spiOvrIe => boolWord s.spi.ovrIe
  | .spiRxTrig => s.spi.rxTrig.setWidth 32
  | .spiTxTrig => s.spi.txTrig.setWidth 32
  | .i2cEn => boolWord s.i2c.en
  | .i2cStart => boolWord s.i2c.start
  | .i2cStop => boolWord s.i2c.stop
  | .i2cAck => boolWord s.i2c.ack
  | .i2cTxIe => boolWord s.i2c.txIe
  | .i2cRxIe => boolWord s.i2c.rxIe
  | .i2cOvrIe => boolWord s.i2c.ovrIe
  | .i2cSlaveAddr => s.i2c.slaveAddr.setWidth 32
  | .i2cRxTrig => s.i2c.rxTrig.setWidth 32
  | .i2cTxTrig => s.i2c.txTrig.setWidth 32
  | .i2cDiv => s.i2c.div.setWidth 32
  | .timerEn => boolWord s.timer.running
  | .timerOneshot => boolWord s.timer.oneshot
  | .timerOvfIe => boolWord s.timer.ovfIe
  | .timerValue => s.timer.value
  | .timerLimit => s.timer.limit
  | .timerPrescaler => s.timer.prescaler
  | .timerOvf => boolWord s.timer.ovfPending
  | .cmpTarget k => (cmpAt s k).elim 0 (·.target)
  | .cmpEn k => (cmpAt s k).elim 0 (fun c => boolWord c.en)
  | .cmpPend k => (cmpAt s k).elim 0 (fun c => boolWord c.pending)
  | .dmaEn => boolWord s.dma.en
  | .chSrc n => (chanAt s n).elim 0 (·.src)
  | .chDst n => (chanAt s n).elim 0 (·.dst)
  | .chCount n => (chanAt s n).elim 0 (·.count)
  | .chEn n => (chanAt s n).elim 0 (fun c => boolWord c.enabled)
  | .chStart _ => 0
  | .chIe n => (chanAt s n).elim 0 (fun c => boolWord c.ie)
  | .chIf n => (chanAt s n).elim 0 (fun c => boolWord c.pending)
  | .intcEnable => s.intc.enable
  | .intcPending => snapshot (sources .intc s)
  | .intcPrio n => (prioAt s n).elim 0 (fun p => p.setWidth 32)

/-- What reading a field does to the state: the five `SideEffect` fields of R142, nothing for the others. -/
def fieldEffect (f : FieldId) (s : State) : State :=
  match f with
  | .data w => (serDataRead w s).2
  | .rbr => (serDataRead .uart16550 s).2
  | .lsrOe => clearOverrun .uart16550 s
  | _ => s

/-- Change compare channel `k`, if the block has it. -/
def modifyCmp (k : Nat) (f : Cmp → Cmp) (s : State) : State :=
  match cmpAt s k with
  | some c => setCmp s k (f c)
  | none => s

/-- Change DMA channel `n`, if the block has it. -/
def modifyChan (n : Nat) (f : DmaChannel → DmaChannel) (s : State) : State :=
  match chanAt s n with
  | some c => setChan s n (f c)
  | none => s

/-- `apply(f, sub)` (R149): what a write of the sub-value does to one field. -/
def applyField (f : FieldId) (sub : Word) (s : State) : State :=
  let bit := sub.getLsbD 0
  match f with
  | .gpioData => { s with gpio := { s.gpio with out := sub } }
  | .gpioDir => { s with gpio := { s.gpio with dir := sub } }
  | .gpioIe => { s with gpio := { s.gpio with ie := sub } }
  | .gpioIs => { s with gpio := { s.gpio with is := s.gpio.is &&& ~~~sub } }
  | .gpioIt => { s with gpio := { s.gpio with it := sub } }
  | .gpioIp => { s with gpio := { s.gpio with ip := sub } }
  | .gpioEdge => { s with gpio := { s.gpio with edge := sub } }
  | .data w => serDataWrite w (sub.setWidth 8) s
  | .txEmpty _ => s
  | .txFull _ => s
  | .rxEmpty _ => s
  | .rxFull _ => s
  | .overrun w => if bit then clearOverrun w s else s
  | .uartTxEn => { s with uart := { s.uart with txEn := bit } }
  | .uartRxEn => { s with uart := { s.uart with rxEn := bit } }
  | .uartTxIe => { s with uart := { s.uart with txIe := bit } }
  | .uartRxIe => { s with uart := { s.uart with rxIe := bit } }
  | .uartOvrIe => { s with uart := { s.uart with ovrIe := bit } }
  | .uartRxTrig => { s with uart := { s.uart with rxTrig := sub.setWidth 5 } }
  | .uartTxTrig => { s with uart := { s.uart with txTrig := sub.setWidth 5 } }
  | .uartDiv => if sub = 0 then warn .zeroDiv s else { s with uart := { s.uart with div := sub.setWidth 16 } }
  | .rbr => s
  | .thr => serDataWrite .uart16550 (sub.setWidth 8) s
  | .dll => { s with u16 := { s.u16 with dll := sub.setWidth 8 } }
  | .dlh => { s with u16 := { s.u16 with dlh := sub.setWidth 8 } }
  | .erbfi => { s with u16 := { s.u16 with erbfi := bit } }
  | .etbei => { s with u16 := { s.u16 with etbei := bit } }
  | .elsi => { s with u16 := { s.u16 with elsi := bit } }
  | .iirNopend => s
  | .iirId => s
  | .iirFifoEn => s
  | .fcrFifoEn => { s with u16 := { s.u16 with fifoEn := bit } }
  | .fcrRxClr => if bit then clearFifo ⟨.uart16550, .rx⟩ s else s
  | .fcrTxClr => if bit then clearFifo ⟨.uart16550, .tx⟩ s else s
  | .fcrRxTrig => { s with u16 := { s.u16 with trig := sub.setWidth 2 } }
  | .lcr => { s with u16 := { s.u16 with lcr := sub.setWidth 8 } }
  | .lsrDr => s
  | .lsrOe => s
  | .lsrThre => s
  | .lsrTemt => s
  | .spiEn => { s with spi := { s.spi with en := bit } }
  | .spiLoopback => { s with spi := { s.spi with loopback := bit } }
  | .spiMode => { s with spi := { s.spi with mode := sub.setWidth 2 } }
  | .spiTxIe => { s with spi := { s.spi with txIe := bit } }
  | .spiRxIe => { s with spi := { s.spi with rxIe := bit } }
  | .spiOvrIe => { s with spi := { s.spi with ovrIe := bit } }
  | .spiRxTrig => { s with spi := { s.spi with rxTrig := sub.setWidth 5 } }
  | .spiTxTrig => { s with spi := { s.spi with txTrig := sub.setWidth 5 } }
  | .i2cEn => { s with i2c := { s.i2c with en := bit } }
  | .i2cStart => { s with i2c := { s.i2c with start := bit } }
  | .i2cStop => { s with i2c := { s.i2c with stop := bit } }
  | .i2cAck => { s with i2c := { s.i2c with ack := bit } }
  | .i2cTxIe => { s with i2c := { s.i2c with txIe := bit } }
  | .i2cRxIe => { s with i2c := { s.i2c with rxIe := bit } }
  | .i2cOvrIe => { s with i2c := { s.i2c with ovrIe := bit } }
  | .i2cSlaveAddr => { s with i2c := { s.i2c with slaveAddr := sub.setWidth 7 } }
  | .i2cRxTrig => { s with i2c := { s.i2c with rxTrig := sub.setWidth 5 } }
  | .i2cTxTrig => { s with i2c := { s.i2c with txTrig := sub.setWidth 5 } }
  | .i2cDiv => if sub = 0 then warn .zeroDiv s else { s with i2c := { s.i2c with div := sub.setWidth 16 } }
  | .timerEn => { s with timer := if bit then tchStart s.cfg.cmpArmOnce s.timer else tchStop s.timer }
  | .timerOneshot => { s with timer := { s.timer with oneshot := bit } }
  | .timerOvfIe => { s with timer := { s.timer with ovfIe := bit } }
  | .timerValue => { s with timer := { s.timer with value := sub } }
  | .timerLimit => { s with timer := { s.timer with limit := sub } }
  | .timerPrescaler =>
    if sub = 0 then warn .zeroDiv s else { s with timer := { s.timer with prescaler := sub, prescCnt := 0 } }
  | .timerOvf => if bit then { s with timer := { s.timer with ovfPending := false } } else s
  | .cmpTarget k => modifyCmp k (fun c => { c with target := sub, armed := true }) s
  | .cmpEn k => modifyCmp k (fun c => { c with en := bit }) s
  | .cmpPend k => if bit then modifyCmp k (fun c => { c with pending := false }) s else s
  | .dmaEn => { s with dma := { s.dma with en := bit } }
  | .chSrc n => modifyChan n (fun c => { c with src := sub }) s
  | .chDst n => modifyChan n (fun c => { c with dst := sub }) s
  | .chCount n => modifyChan n (fun c => { c with count := sub }) s
  | .chEn n => modifyChan n (fun c => { c with enabled := bit }) s
  | .chStart _ => s
  | .chIe n => modifyChan n (fun c => { c with ie := bit }) s
  | .chIf n => if bit then modifyChan n (fun c => { c with pending := false }) s else s
  | .intcEnable => { s with intc := { s.intc with enable := sub } }
  | .intcPending => s
  | .intcPrio n => { s with intc := { s.intc with prio := s.intc.prio.set n (sub.setWidth 8) } }

/-- One turn of the read loop (R143): add a field's contribution, run its read effect. -/
def readStep (p : Word × State) (f : FieldId) : Word × State :=
  let d := fieldDesc p.2.cfg f
  (p.1 ||| packField (fieldValue f p.2) d.lo.toNat d.width.toNat, fieldEffect f p.2)

/-- One turn of the write loop (R147): give a field its sub-value. -/
def writeStep (v : Word) (s : State) (f : FieldId) : State :=
  let d := fieldDesc s.cfg f
  applyField f (extractField v d.lo.toNat d.width.toNat) s

/-- Does a Register have a post-read hook: a field whose read changes state (R151, R200)? -/
def hasReadHook (c : Config) (r : Register) : Bool :=
  r.fields.any (fun f => (fieldDesc c f).effect == .sideEffect)

/-- The part of a post-write hook that a register rule adds before `UpdateInterrupts` (R303, R451). -/
def hookAction (w : Window) (off : Nat) (v : Word) (s : State) : Host.Outcome State Fault Refusal :=
  match w with
  | .uart => .next (if off == 0x08 then drainIfOn .uart s else s)
  | .spi => .next (if off == 0x00 then drainIfOn .spi s else s)
  | .i2c => .next (if off == 0x00 then drainIfOn .i2c s else s)
  | .dma =>
    if 0x100 ≤ off ∧ (off - 0x100) % 0x20 = 0xC ∧ v.getLsbD 1 = true then dmaRequest ((off - 0x100) / 0x20) s
    else .next s
  | _ => .next s

/-- `RB.READ(bank, off)` (R143, R144, R151). -/
def rbRead (w : Window) (off : Nat) (s : State) : Host.Outcome State Fault Refusal :=
  match lookup s.cfg s.u16.mapSel w true off with
  | none => unmatchedRead off s
  | some r =>
    let p := r.fields.foldl readStep (0, s)
    doneWord p.1 (if hasReadHook s.cfg r then updateInterrupts w p.2 else p.2)

/-- `RB.WRITE(bank, off, v)` (R147, R148, R150). -/
def rbWrite (w : Window) (off : Nat) (v : Word) (s : State) : Host.Outcome State Fault Refusal :=
  match lookup s.cfg s.u16.mapSel w false off with
  | none => unmatchedWrite off s
  | some r => andThen (hookAction w off v (r.fields.foldl (writeStep v) s)) (hook w)

/-! ## Definition-time check (R153, R484) -/

/-- The bits of a field, as a mask; 0 for one that does not fit (clause (c) refuses it first). -/
def fieldBits (f : FieldDesc) : Word := maskWord f.width.toNat <<< f.lo.toNat

/-- The reserved bits of a Register: those of no field. -/
def reservedBits (r : RegDesc) : Word := ~~~(r.fields.foldl (fun m f => m ||| fieldBits f) 0)

/-- Clause (a): the offset is a multiple of 4 and below 0x1000. -/
def offsetOk (r : RegDesc) : Bool := r.off.toNat % 4 == 0 && r.off.toNat < 0x1000

/-- Are two Registers ever active under the same mapping and direction? -/
def sameSpace (a b : RegDesc) : Bool :=
  ((a.readable && b.readable) || (a.writable && b.writable)) &&
    (a.mapping == .always || b.mapping == .always || a.mapping == b.mapping)

/-- Clause (b): no two Registers active under the same mapping and direction share an offset. -/
def offsetsDistinct : List RegDesc → Bool
  | [] => true
  | r :: rs => rs.all (fun x => !(sameSpace r x && r.off == x.off)) && offsetsDistinct rs

/-- Clause (c): `1 <= width <= 32` and `lo + width <= 32`. -/
def rangeOk (f : FieldDesc) : Bool := 1 ≤ f.width.toNat && f.lo.toNat + f.width.toNat ≤ 32

/-- Do two fields share a bit? -/
def fieldsMeet (f g : FieldDesc) : Bool :=
  f.lo.toNat < g.lo.toNat + g.width.toNat && g.lo.toNat < f.lo.toNat + f.width.toNat

/-- Clause (d): fields within one Register never overlap. -/
def noOverlap : List FieldDesc → Bool
  | [] => true
  | f :: fs => fs.all (fun g => !fieldsMeet f g) && noOverlap fs

/-- Clause (e): the reset value fits in the width. -/
def resetFits (f : FieldDesc) : Bool := f.reset.toNat < 2 ^ f.width.toNat

/-- Clause (f): the declared reset word has 0 in the reserved bits marked fatal-on-nonzero. -/
def reservedZero (r : RegDesc) : Bool := r.resetWord &&& r.fatalReserved &&& reservedBits r == 0

/-- The first clause a bank fails, in the order (a) to (f) (log 12); `none` for a well-formed bank. -/
def bankDefect (bank : List RegDesc) : Option FatalCode :=
  if !bank.all offsetOk then some .fOffset
  else if !offsetsDistinct bank then some .fDupOffset
  else if !bank.all (fun r => r.fields.all rangeOk) then some .fFieldRange
  else if !bank.all (fun r => noOverlap r.fields) then some .fOverlap
  else if !bank.all (fun r => r.fields.all resetFits) then some .fResetWidth
  else if !bank.all reservedZero then some .fReservedNonzero
  else none

/-- A Register of the block as a descriptor: the declared reset word is the packing of its fields' reset values, and no
reserved bit is marked (the spec marks none). -/
def regDescOf (c : Config) (r : Register) : RegDesc where
  off           := BitVec.ofNat 32 r.off
  readable      := r.readable
  writable      := r.writable
  mapping       := r.mapping
  fatalReserved := 0
  resetWord     :=
    r.fields.foldl (fun acc f => acc ||| packField (fieldDesc c f).reset (fieldDesc c f).lo.toNat (fieldDesc c f).width.toNat) 0
  fields        := r.fields.map (fieldDesc c)

/-- The bank of a window as descriptors: what `OP RB.DEFINE` is given when the window is built (R24, R153). -/
def bankOf (c : Config) (w : Window) : List RegDesc := (registersOf c w).map (regDescOf c)

end Sys2Proof.Machine
end

