-- ==== Sys2Proof/Machine/Component.lean ====
section
/-! DEFINITION. The component operations (R110, R114): the contracts of the components, exercised alone on the block's own components (log 15). None of them recomputes an interrupt line unless its pseudocode says so. -/

namespace Sys2Proof.Machine

/-- `OP RB.READ` (R143). -/
def execOpRbRead (bank : Window) (off : Word) (s : State) : Host.Outcome State Fault Refusal :=
  rbRead bank off.toNat s

/-- `OP RB.WRITE` (R147). -/
def execOpRbWrite (bank : Window) (off v : Word) (s : State) : Host.Outcome State Fault Refusal :=
  rbWrite bank off.toNat v s

/-- `OP RB.RESET` (R152): the cells only; no consumer and no hook runs. -/
def execOpRbReset (bank : Window) (s : State) : Host.Outcome State Fault Refusal := done (rbReset bank s)

/-- `OP RB.DEFINE` (R153): an ill-formed bank is fatal at construction, a well-formed one changes nothing. The spec places the
check once, before the first stimulus, and does not say what a later one does; that it is the same check in every state is
the model's choice (DESIGN CHOICE, log 12). -/
def execOpRbDefine (bank : List RegDesc) (s : State) : Host.Outcome State Fault Refusal :=
  match bankDefect bank with
  | some c => .fault (.definition c)
  | none => done s

/-- `OP FIFO.PUSH` (R171): was the byte taken? -/
def execOpFifoPush (q : FifoId) (b : Byte) (s : State) : Host.Outcome State Fault Refusal :=
  let r := pushFifo q b s
  .next (ret (.bool r.1) r.2)

/-- `OP FIFO.POP` (R172). -/
def execOpFifoPop (q : FifoId) (s : State) : Host.Outcome State Fault Refusal :=
  let r := popFifo q s
  .next (ret (.byte r.1) r.2)

/-- `OP FIFO.COUNT` (R173). -/
def execOpFifoCount (q : FifoId) (s : State) : Host.Outcome State Fault Refusal :=
  .next (ret (.count (fifoOf q s).length) s)

/-- `OP FIFO.ISFULL` (R174). -/
def execOpFifoIsFull (q : FifoId) (s : State) : Host.Outcome State Fault Refusal :=
  .next (ret (.bool (isFull s.cfg.fifoCap (fifoOf q s))) s)

/-- `OP FIFO.ISEMPTY` (R175). -/
def execOpFifoIsEmpty (q : FifoId) (s : State) : Host.Outcome State Fault Refusal :=
  .next (ret (.bool (isEmpty (fifoOf q s))) s)

/-- `OP FIFO.CLEAR` (R176). -/
def execOpFifoClear (q : FifoId) (s : State) : Host.Outcome State Fault Refusal := done (clearFifo q s)

/-- `OP LINE.SET` (R191). -/
def execOpLineSet (line : Window) (level : Bool) (s : State) : Host.Outcome State Fault Refusal :=
  done (lineSet line level s)

/-- `OP AGG.OR` (R194). -/
def execOpAggOr (line : Window) (sources : List Source) (s : State) : Host.Outcome State Fault Refusal :=
  done (lineSet line (orOf sources) s)

/-- `OP AGG.PRIO` (R197): the line, and the winner as the value returned. -/
def execOpAggPrio (line : Window) (sources : List Source) (s : State) : Host.Outcome State Fault Refusal :=
  .next (ret (.winner (winner sources)) (lineSet line (winner sources).isSome s))

/-- `OP AGG.SNAPSHOT` (R199). -/
def execOpAggSnapshot (sources : List Source) (s : State) : Host.Outcome State Fault Refusal :=
  doneWord (snapshot sources) s

/-- `OP TCH.TICK` (R226). -/
def execOpTchTick (s : State) : Host.Outcome State Fault Refusal :=
  done { s with timer := tchTick s.cfg.cmpArmOnce s.timer }

/-- `OP TCH.START` (R222). -/
def execOpTchStart (s : State) : Host.Outcome State Fault Refusal :=
  done { s with timer := tchStart s.cfg.cmpArmOnce s.timer }

/-- `OP TCH.STOP` (R223). -/
def execOpTchStop (s : State) : Host.Outcome State Fault Refusal := done { s with timer := tchStop s.timer }

/-- `OP CMP.EVAL` (R230); an index the block does not have is ignored with a warning (log 9). -/
def execOpCmpEval (k : BitVec 16) (s : State) : Host.Outcome State Fault Refusal :=
  match cmpAt s k.toNat with
  | some c => done (setCmp s k.toNat (cmpEval s.cfg.cmpArmOnce s.timer.value c))
  | none => done (warn (.badChannel k.toNat) s)

/-- `OP DCH.CONFIGURE` (R263); an index the block does not have is ignored with a warning (log 9). -/
def execOpDchConfigure (c : BitVec 16) (src dst count : Word) (s : State) : Host.Outcome State Fault Refusal :=
  match chanAt s c.toNat with
  | some ch => done (setChan s c.toNat { ch with src := src, dst := dst, count := count })
  | none => done (warn (.badChannel c.toNat) s)

/-- `OP DCH.SETENABLED` (R264); an index the block does not have is ignored with a warning (log 9). -/
def execOpDchSetEnabled (c : BitVec 16) (b : Bool) (s : State) : Host.Outcome State Fault Refusal :=
  match chanAt s c.toNat with
  | some ch => done (setChan s c.toNat { ch with enabled := b })
  | none => done (warn (.badChannel c.toNat) s)

/-- `OP DCH.TRIGGER` (R266); an index the block does not have is ignored with a warning (log 9). -/
def execOpDchTrigger (c : BitVec 16) (s : State) : Host.Outcome State Fault Refusal :=
  match chanAt s c.toNat with
  | some ch => andThen (dchTrigger c.toNat ch s) done
  | none => done (warn (.badChannel c.toNat) s)

/-- `OP DMA.REQUEST` (R268). -/
def execOpDmaRequest (n : Word) (s : State) : Host.Outcome State Fault Refusal :=
  andThen (dmaRequest n.toNat s) done

/-- `OP SER.DATAWRITE` (R293). -/
def execOpSerDataWrite (core : Serial) (b : Byte) (s : State) : Host.Outcome State Fault Refusal :=
  done (serDataWrite core b s)

/-- `OP SER.DATAREAD` (R295). -/
def execOpSerDataRead (core : Serial) (s : State) : Host.Outcome State Fault Refusal :=
  let r := serDataRead core s
  doneWord r.1 r.2

/-- `OP SER.RXCHAR` (R297). -/
def execOpSerRxChar (core : Serial) (b : Byte) (s : State) : Host.Outcome State Fault Refusal :=
  done (serRxChar core b s)

/-- `OP SER.DRAIN` (R294). -/
def execOpSerDrain (core : Serial) (s : State) : Host.Outcome State Fault Refusal := done (serDrain core s)

end Sys2Proof.Machine
end

