-- ==== Sys2Proof/Machine/Dma.lean ====
section
/-! DEFINITION. The DMA window, register by register, and its events (R443 to R456). Every read is pure. A channel index the block does not have takes the unmatched path (R115, R117, log 18). -/

namespace Sys2Proof.Machine

/-- `RD DMA.CONTROL` (R443). -/
def execRdDmaControl (s : State) : Host.Outcome State Fault Refusal := doneWord (flagAt s.dma.en 0) s

/-- `WR DMA.CONTROL` (R444). -/
def execWrDmaControl (v : Word) (s : State) : Host.Outcome State Fault Refusal :=
  hook .dma { s with dma := { s.dma with en := v.getLsbD 0 } }

/-- `RD DMA.CH[n].SRC` (R445). -/
def execRdDmaChSrc (n : BitVec 3) (s : State) : Host.Outcome State Fault Refusal :=
  match chanAt s n.toNat with
  | some c => doneWord c.src s
  | none => unmatchedRead (chOff n.toNat 0x0) s

/-- `WR DMA.CH[n].SRC` (R446). -/
def execWrDmaChSrc (n : BitVec 3) (v : Word) (s : State) : Host.Outcome State Fault Refusal :=
  match chanAt s n.toNat with
  | some c => hook .dma (setChan s n.toNat { c with src := v })
  | none => unmatchedWrite (chOff n.toNat 0x0) s

/-- `RD DMA.CH[n].DST` (R447). -/
def execRdDmaChDst (n : BitVec 3) (s : State) : Host.Outcome State Fault Refusal :=
  match chanAt s n.toNat with
  | some c => doneWord c.dst s
  | none => unmatchedRead (chOff n.toNat 0x4) s

/-- `WR DMA.CH[n].DST` (R448). -/
def execWrDmaChDst (n : BitVec 3) (v : Word) (s : State) : Host.Outcome State Fault Refusal :=
  match chanAt s n.toNat with
  | some c => hook .dma (setChan s n.toNat { c with dst := v })
  | none => unmatchedWrite (chOff n.toNat 0x4) s

/-- `RD DMA.CH[n].COUNT` (R449): the configured count, before and after a transfer (R269). -/
def execRdDmaChCount (n : BitVec 3) (s : State) : Host.Outcome State Fault Refusal :=
  match chanAt s n.toNat with
  | some c => doneWord c.count s
  | none => unmatchedRead (chOff n.toNat 0x8) s

/-- `WR DMA.CH[n].COUNT` (R450). -/
def execWrDmaChCount (n : BitVec 3) (v : Word) (s : State) : Host.Outcome State Fault Refusal :=
  match chanAt s n.toNat with
  | some c => hook .dma (setChan s n.toNat { c with count := v })
  | none => unmatchedWrite (chOff n.toNat 0x8) s

/-- `RD DMA.CH[n].CTRL` (R452): `START` reads 0. -/
def execRdDmaChCtrl (n : BitVec 3) (s : State) : Host.Outcome State Fault Refusal :=
  match chanAt s n.toNat with
  | some c => doneWord (flagAt c.enabled 0 ||| flagAt c.ie 2 ||| flagAt c.pending 3) s
  | none => unmatchedRead (chOff n.toNat 0xC) s

/-- The fields a write of `DMA.CH[n].CTRL` stores: `EN`, `IE`, and `IF` write-one-to-clear (R451). -/
def setChanCtrl (v : Word) (c : DmaChannel) : DmaChannel :=
  { c with enabled := v.getLsbD 0, ie := v.getLsbD 2, pending := c.pending && !v.getLsbD 3 }

/-- `WR DMA.CH[n].CTRL` (R451): the fields, then the hook, which makes the request of `START` and sees the new fields. -/
def execWrDmaChCtrl (n : BitVec 3) (v : Word) (s : State) : Host.Outcome State Fault Refusal :=
  match chanAt s n.toNat with
  | some c =>
    let s1 := setChan s n.toNat (setChanCtrl v c)
    andThen (if v.getLsbD 1 then dmaRequest n.toNat s1 else .next s1) (hook .dma)
  | none => unmatchedWrite (chOff n.toNat 0xC) s

/-- `EV DMA.REQ` (R455). -/
def execEvDmaReq (ch : BitVec 16) (s : State) : Host.Outcome State Fault Refusal :=
  andThen (dmaRequest ch.toNat s) (hook .dma)

/-- `EV DMA.RESET` (R456, R520). `Mem` is not touched. -/
def execEvDmaReset (s : State) : Host.Outcome State Fault Refusal :=
  let s1 := rbReset .dma s
  hook .dma { s1 with dma := { s1.dma with ch := s1.dma.ch.map chanReset } }

end Sys2Proof.Machine
end

