-- ==== Sys2Proof/Machine/Gpio.lean ====
section
/-! DEFINITION. The GPIO window, register by register, and its events (R320 to R344). Every write ends in the hook; no read has an effect (R320). -/

namespace Sys2Proof.Machine

/-- A read of an extension register: unmatched in a block built without the extension (R344). -/
def gpioExtRead (off : Nat) (x : Word) (s : State) : Host.Outcome State Fault Refusal :=
  if s.cfg.gpioExt then doneWord (x &&& gpioMask s.cfg) s else unmatchedRead off s

/-- A write of an extension register that leaves the window as `g`: unmatched in a block built without the extension (R344). -/
def gpioExtWrite (off : Nat) (g : Gpio) (s : State) : Host.Outcome State Fault Refusal :=
  if s.cfg.gpioExt then hook .gpio { s with gpio := g } else unmatchedWrite off s

/-- `RD GPIO.DATA` (R321). -/
def execRdGpioData (s : State) : Host.Outcome State Fault Refusal :=
  doneWord (gpioDataWord s.cfg s.gpio) s

/-- `WR GPIO.DATA` (R322). -/
def execWrGpioData (v : Word) (s : State) : Host.Outcome State Fault Refusal :=
  hook .gpio { s with gpio := { s.gpio with out := v &&& gpioMask s.cfg } }

/-- `RD GPIO.DIR` (R323). -/
def execRdGpioDir (s : State) : Host.Outcome State Fault Refusal :=
  doneWord (s.gpio.dir &&& gpioMask s.cfg) s

/-- `WR GPIO.DIR` (R324). -/
def execWrGpioDir (v : Word) (s : State) : Host.Outcome State Fault Refusal :=
  hook .gpio { s with gpio := { s.gpio with dir := v &&& gpioMask s.cfg } }

/-- `RD GPIO.IE` (R325). -/
def execRdGpioIe (s : State) : Host.Outcome State Fault Refusal := gpioExtRead 0x08 s.gpio.ie s

/-- `WR GPIO.IE` (R326). -/
def execWrGpioIe (v : Word) (s : State) : Host.Outcome State Fault Refusal :=
  gpioExtWrite 0x08 { s.gpio with ie := v &&& gpioMask s.cfg } s

/-- `RD GPIO.IS` (R327). -/
def execRdGpioIs (s : State) : Host.Outcome State Fault Refusal := gpioExtRead 0x0C s.gpio.is s

/-- `WR GPIO.IS`, write-one-to-clear (R328). -/
def execWrGpioIs (v : Word) (s : State) : Host.Outcome State Fault Refusal :=
  gpioExtWrite 0x0C { s.gpio with is := s.gpio.is &&& ~~~(v &&& gpioMask s.cfg) } s

/-- `RD GPIO.IT` (R329). -/
def execRdGpioIt (s : State) : Host.Outcome State Fault Refusal := gpioExtRead 0x10 s.gpio.it s

/-- `WR GPIO.IT` (R330). -/
def execWrGpioIt (v : Word) (s : State) : Host.Outcome State Fault Refusal :=
  gpioExtWrite 0x10 { s.gpio with it := v &&& gpioMask s.cfg } s

/-- `RD GPIO.IP` (R331). -/
def execRdGpioIp (s : State) : Host.Outcome State Fault Refusal := gpioExtRead 0x14 s.gpio.ip s

/-- `WR GPIO.IP` (R332). -/
def execWrGpioIp (v : Word) (s : State) : Host.Outcome State Fault Refusal :=
  gpioExtWrite 0x14 { s.gpio with ip := v &&& gpioMask s.cfg } s

/-- `RD GPIO.EDGE` (R333). -/
def execRdGpioEdge (s : State) : Host.Outcome State Fault Refusal := gpioExtRead 0x18 s.gpio.edge s

/-- `WR GPIO.EDGE` (R334). -/
def execWrGpioEdge (v : Word) (s : State) : Host.Outcome State Fault Refusal :=
  gpioExtWrite 0x18 { s.gpio with edge := v &&& gpioMask s.cfg } s

/-- The latches after a pin event: the pin's own is set when `detect` says so, and only in a block with the extension (R341). -/
def pinLatches (c : Config) (g : Gpio) (pin : Nat) (level : Bool) : Word :=
  if c.gpioExt && detect g pin (g.inp.getLsbD pin) level then setBit g.is pin true else g.is

/-- `EV GPIO.PIN` (R341, R342). -/
def execEvGpioPin (pin : BitVec 16) (level : Bool) (s : State) : Host.Outcome State Fault Refusal :=
  if s.cfg.nGpio ≤ pin.toNat then done (warn (.badPin pin.toNat) s)
  else
    hook .gpio
      { s with
        gpio :=
          { s.gpio with
            inp := setBit s.gpio.inp pin.toNat level, is := pinLatches s.cfg s.gpio pin.toNat level } }

/-- `EV GPIO.RESET` (R343, R520). -/
def execEvGpioReset (s : State) : Host.Outcome State Fault Refusal :=
  let s1 := rbReset .gpio s
  hook .gpio { s1 with gpio := { s1.gpio with inp := 0, is := 0 } }

end Sys2Proof.Machine
end

