-- ==== Sys2Proof/Machine/I2c.lean ====
section
/-! DEFINITION. The I2C window, register by register, and its events (R396 to R407). START, STOP, ACK and SLAVE_ADDR are storage only (R396). -/

namespace Sys2Proof.Machine

/-- The `I2C.CONTROL` word (R63, R398). -/
def i2cControlWord (u : I2c) : Word :=
  flagAt u.en 0 ||| flagAt u.start 1 ||| flagAt u.stop 2 ||| flagAt u.ack 3 ||| flagAt u.txIe 4 |||
    flagAt u.rxIe 5 ||| flagAt u.ovrIe 6 ||| fieldAt u.slaveAddr 8 ||| fieldAt u.rxTrig 16 ||| fieldAt u.txTrig 24

/-- `RD I2C.CONTROL` (R398). -/
def execRdI2cControl (s : State) : Host.Outcome State Fault Refusal := doneWord (i2cControlWord s.i2c) s

/-- `WR I2C.CONTROL` (R399). -/
def execWrI2cControl (v : Word) (s : State) : Host.Outcome State Fault Refusal :=
  hook .i2c (drainIfOn .i2c { s with i2c := setI2cControl v s.i2c })

/-- `RD I2C.DATA` (R400): pop, then the post-read hook. -/
def execRdI2cData (s : State) : Host.Outcome State Fault Refusal :=
  let r := serDataRead .i2c s
  doneWord r.1 (updateInterrupts .i2c r.2)

/-- `WR I2C.DATA` (R401). -/
def execWrI2cData (v : Word) (s : State) : Host.Outcome State Fault Refusal :=
  hook .i2c (serDataWrite .i2c (v.extractLsb' 0 8) s)

/-- `RD I2C.STATUS` (R402). -/
def execRdI2cStatus (s : State) : Host.Outcome State Fault Refusal :=
  doneWord (statusWord s.cfg.fifoCap s.i2c.port) s

/-- `WR I2C.STATUS` (R403). -/
def execWrI2cStatus (v : Word) (s : State) : Host.Outcome State Fault Refusal :=
  hook .i2c (if v.getLsbD 4 then clearOverrun .i2c s else s)

/-- `RD I2C.CLOCKDIV` (R404). -/
def execRdI2cClockDiv (s : State) : Host.Outcome State Fault Refusal := doneWord (fieldAt s.i2c.div 0) s

/-- `WR I2C.CLOCKDIV` (R406): a zero divisor is refused with a warning. -/
def execWrI2cClockDiv (v : Word) (s : State) : Host.Outcome State Fault Refusal :=
  let d := v.extractLsb' 0 16
  hook .i2c (if d = 0 then warn .zeroDiv s else { s with i2c := { s.i2c with div := d } })

/-- `EV I2C.RXCHAR` (R405). -/
def execEvI2cRxChar (b : Byte) (s : State) : Host.Outcome State Fault Refusal :=
  hook .i2c (serRxChar .i2c b s)

/-- `EV I2C.RESET` (R407, R520). -/
def execEvI2cReset (s : State) : Host.Outcome State Fault Refusal :=
  hook .i2c (portReset .i2c (rbReset .i2c s))

end Sys2Proof.Machine
end

