-- ==== Sys2Proof/Machine/Intc.lean ====
section
/-! DEFINITION. The INTC window, register by register, and its events (R460 to R468). Every read is pure. A source index the block does not have takes the unmatched path (R115, R117, log 18). -/

namespace Sys2Proof.Machine

/-- `RD INTC.ENABLE` (R460). -/
def execRdIntcEnable (s : State) : Host.Outcome State Fault Refusal :=
  doneWord (s.intc.enable &&& irqMask s.cfg) s

/-- `WR INTC.ENABLE` (R461): the whole word is replaced, and the hook re-arbitrates. -/
def execWrIntcEnable (v : Word) (s : State) : Host.Outcome State Fault Refusal :=
  hook .intc { s with intc := { s.intc with enable := v &&& irqMask s.cfg } }

/-- `RD INTC.PENDING` (R462): the snapshot of the sources (R199). -/
def execRdIntcPending (s : State) : Host.Outcome State Fault Refusal :=
  doneWord (snapshot (sources .intc s)) s

/-- `WR INTC.PENDING` (R463): read-only, the write changes nothing. -/
def execWrIntcPending (_v : Word) (s : State) : Host.Outcome State Fault Refusal := hook .intc s

/-- `RD INTC.PRIORITY[n]` (R464). -/
def execRdIntcPriority (n : BitVec 5) (s : State) : Host.Outcome State Fault Refusal :=
  match prioAt s n.toNat with
  | some p => doneWord (fieldAt p 0) s
  | none => unmatchedRead (prioOff n.toNat) s

/-- `WR INTC.PRIORITY[n]` (R465). -/
def execWrIntcPriority (n : BitVec 5) (v : Word) (s : State) : Host.Outcome State Fault Refusal :=
  match prioAt s n.toNat with
  | some _ =>
    hook .intc { s with intc := { s.intc with prio := s.intc.prio.set n.toNat (v.extractLsb' 0 8) } }
  | none => unmatchedWrite (prioOff n.toNat) s

/-- `EV INTC.SRC` (R466): the pending bit mirrors the source's level. -/
def execEvIntcSrc (src : BitVec 16) (level : Bool) (s : State) : Host.Outcome State Fault Refusal :=
  if s.cfg.nIrqSrc ≤ src.toNat then done (warn (.badSource src.toNat) s)
  else hook .intc { s with intc := { s.intc with pending := setBit s.intc.pending src.toNat level } }

/-- `EV INTC.RESET` (R467, R520). -/
def execEvIntcReset (s : State) : Host.Outcome State Fault Refusal :=
  let s1 := rbReset .intc s
  hook .intc { s1 with intc := { s1.intc with pending := 0 } }

end Sys2Proof.Machine
end

