-- ==== Sys2Proof/Machine/Spi.lean ====
section
/-! DEFINITION. The SPI window, register by register, and its events (R388 to R397). -/

namespace Sys2Proof.Machine

/-- The `SPI.CONTROL` word (R59, R388). -/
def spiControlWord (u : Spi) : Word :=
  flagAt u.en 0 ||| flagAt u.loopback 1 ||| fieldAt u.mode 2 ||| flagAt u.txIe 4 ||| flagAt u.rxIe 5 |||
    flagAt u.ovrIe 6 ||| fieldAt u.rxTrig 8 ||| fieldAt u.txTrig 16

/-- `RD SPI.CONTROL` (R388). -/
def execRdSpiControl (s : State) : Host.Outcome State Fault Refusal := doneWord (spiControlWord s.spi) s

/-- `WR SPI.CONTROL` (R389): the drain sees the LOOPBACK value of this write. -/
def execWrSpiControl (v : Word) (s : State) : Host.Outcome State Fault Refusal :=
  hook .spi (drainIfOn .spi { s with spi := setSpiControl v s.spi })

/-- `RD SPI.DATA` (R391): pop, then the post-read hook. -/
def execRdSpiData (s : State) : Host.Outcome State Fault Refusal :=
  let r := serDataRead .spi s
  doneWord r.1 (updateInterrupts .spi r.2)

/-- `WR SPI.DATA` (R392). -/
def execWrSpiData (v : Word) (s : State) : Host.Outcome State Fault Refusal :=
  hook .spi (serDataWrite .spi (v.extractLsb' 0 8) s)

/-- `RD SPI.STATUS` (R393). -/
def execRdSpiStatus (s : State) : Host.Outcome State Fault Refusal :=
  doneWord (statusWord s.cfg.fifoCap s.spi.port) s

/-- `WR SPI.STATUS` (R395). -/
def execWrSpiStatus (v : Word) (s : State) : Host.Outcome State Fault Refusal :=
  hook .spi (if v.getLsbD 4 then clearOverrun .spi s else s)

/-- `EV SPI.RXCHAR` (R394). -/
def execEvSpiRxChar (b : Byte) (s : State) : Host.Outcome State Fault Refusal :=
  hook .spi (serRxChar .spi b s)

/-- `EV SPI.RESET` (R397, R520). -/
def execEvSpiReset (s : State) : Host.Outcome State Fault Refusal :=
  hook .spi (portReset .spi (rbReset .spi s))

end Sys2Proof.Machine
end

