-- ==== Sys2Proof/Machine/Timer.lean ====
section
/-! DEFINITION. The TIMER window, register by register, and its events (R420 to R441). Every read is pure. A compare index the block does not have takes the unmatched path (R115, R117, log 18). -/

namespace Sys2Proof.Machine

/-- `RD TIMER.CONTROL` (R420): `EN` reads the state machine. -/
def execRdTimerControl (s : State) : Host.Outcome State Fault Refusal :=
  doneWord (flagAt s.timer.running 0 ||| flagAt s.timer.oneshot 1 ||| flagAt s.timer.ovfIe 2) s

/-- `WR TIMER.CONTROL` (R421), fields in ascending bit order. -/
def execWrTimerControl (v : Word) (s : State) : Host.Outcome State Fault Refusal :=
  let t := if v.getLsbD 0 then tchStart s.cfg.cmpArmOnce s.timer else tchStop s.timer
  hook .timer { s with timer := { t with oneshot := v.getLsbD 1, ovfIe := v.getLsbD 2 } }

/-- `RD TIMER.VALUE` (R422). -/
def execRdTimerValue (s : State) : Host.Outcome State Fault Refusal := doneWord s.timer.value s

/-- `WR TIMER.VALUE` (R423): taken verbatim, no overflow and no comparison. -/
def execWrTimerValue (v : Word) (s : State) : Host.Outcome State Fault Refusal :=
  hook .timer { s with timer := { s.timer with value := v } }

/-- `RD TIMER.RELOAD` (R424). -/
def execRdTimerReload (s : State) : Host.Outcome State Fault Refusal := doneWord s.timer.limit s

/-- `WR TIMER.RELOAD` (R425). -/
def execWrTimerReload (v : Word) (s : State) : Host.Outcome State Fault Refusal :=
  hook .timer { s with timer := { s.timer with limit := v } }

/-- `RD TIMER.PRESCALER` (R427). -/
def execRdTimerPrescaler (s : State) : Host.Outcome State Fault Refusal := doneWord s.timer.prescaler s

/-- `WR TIMER.PRESCALER` (R428): zero is refused with a warning; an accepted value restarts the dwell. -/
def execWrTimerPrescaler (v : Word) (s : State) : Host.Outcome State Fault Refusal :=
  hook .timer (if v = 0 then warn .zeroDiv s else { s with timer := { s.timer with prescaler := v, prescCnt := 0 } })

/-- `RD TIMER.STATUS` (R429). -/
def execRdTimerStatus (s : State) : Host.Outcome State Fault Refusal := doneWord (flagAt s.timer.ovfPending 0) s

/-- `WR TIMER.STATUS`, write-one-to-clear (R430). -/
def execWrTimerStatus (v : Word) (s : State) : Host.Outcome State Fault Refusal :=
  hook .timer (if v.getLsbD 0 then { s with timer := { s.timer with ovfPending := false } } else s)

/-- `RD TIMER.CMP[k].TARGET` (R431). -/
def execRdTimerCmpTarget (k : BitVec 4) (s : State) : Host.Outcome State Fault Refusal :=
  match cmpAt s k.toNat with
  | some c => doneWord c.target s
  | none => unmatchedRead (cmpOff k.toNat 0) s

/-- `WR TIMER.CMP[k].TARGET` (R432): stores and re-arms, compares nothing. -/
def execWrTimerCmpTarget (k : BitVec 4) (v : Word) (s : State) : Host.Outcome State Fault Refusal :=
  match cmpAt s k.toNat with
  | some c => hook .timer (setCmp s k.toNat { c with target := v, armed := true })
  | none => unmatchedWrite (cmpOff k.toNat 0) s

/-- `RD TIMER.CMP[k].CTRL` (R433). -/
def execRdTimerCmpCtrl (k : BitVec 4) (s : State) : Host.Outcome State Fault Refusal :=
  match cmpAt s k.toNat with
  | some c => doneWord (flagAt c.en 0 ||| flagAt c.pending 1) s
  | none => unmatchedRead (cmpOff k.toNat 4) s

/-- `WR TIMER.CMP[k].CTRL` (R434): `EN` stored, `PEND` write-one-to-clear. -/
def execWrTimerCmpCtrl (k : BitVec 4) (v : Word) (s : State) : Host.Outcome State Fault Refusal :=
  match cmpAt s k.toNat with
  | some c => hook .timer (setCmp s k.toNat { c with en := v.getLsbD 0, pending := c.pending && !v.getLsbD 1 })
  | none => unmatchedWrite (cmpOff k.toNat 4) s

/-- `EV TIMER.TICK` (R440). -/
def execEvTimerTick (s : State) : Host.Outcome State Fault Refusal :=
  hook .timer { s with timer := tchTick s.cfg.cmpArmOnce s.timer }

/-- `EV TIMER.RESET` (R441, R520). -/
def execEvTimerReset (s : State) : Host.Outcome State Fault Refusal :=
  let s1 := rbReset .timer s
  hook .timer { s1 with timer := timerReset s1.timer }

end Sys2Proof.Machine
end

