-- ==== Sys2Proof/Machine/Uart.lean ====
section
/-! DEFINITION. The UART window, register by register, and its events (R350 to R359). -/

namespace Sys2Proof.Machine

/-- `RD UART.DATA` (R350): pop, then the post-read hook. -/
def execRdUartData (s : State) : Host.Outcome State Fault Refusal :=
  let r := serDataRead .uart s
  doneWord r.1 (updateInterrupts .uart r.2)

/-- `WR UART.DATA` (R351). -/
def execWrUartData (v : Word) (s : State) : Host.Outcome State Fault Refusal :=
  hook .uart (serDataWrite .uart (v.extractLsb' 0 8) s)

/-- `RD UART.STATUS` (R352). -/
def execRdUartStatus (s : State) : Host.Outcome State Fault Refusal :=
  doneWord (statusWord s.cfg.fifoCap s.uart.port) s

/-- `WR UART.STATUS` (R353): only the overrun flag is writable, by writing 1. -/
def execWrUartStatus (v : Word) (s : State) : Host.Outcome State Fault Refusal :=
  hook .uart (if v.getLsbD 4 then clearOverrun .uart s else s)

/-- The `UART.CONTROL` word (R47, R354). -/
def uartControlWord (u : Uart) : Word :=
  flagAt u.txEn 0 ||| flagAt u.rxEn 1 ||| flagAt u.txIe 2 ||| flagAt u.rxIe 3 ||| flagAt u.ovrIe 4 |||
    fieldAt u.rxTrig 8 ||| fieldAt u.txTrig 16

/-- `RD UART.CONTROL` (R354). -/
def execRdUartControl (s : State) : Host.Outcome State Fault Refusal := doneWord (uartControlWord s.uart) s

/-- `WR UART.CONTROL` (R355): the cells, then the hook, which drains a transmitter that is on (R303). -/
def execWrUartControl (v : Word) (s : State) : Host.Outcome State Fault Refusal :=
  hook .uart (drainIfOn .uart { s with uart := setUartControl v s.uart })

/-- `RD UART.BAUD` (R356). -/
def execRdUartBaud (s : State) : Host.Outcome State Fault Refusal := doneWord (fieldAt s.uart.div 0) s

/-- `WR UART.BAUD` (R357): a zero divisor is refused with a warning. -/
def execWrUartBaud (v : Word) (s : State) : Host.Outcome State Fault Refusal :=
  let d := v.extractLsb' 0 16
  hook .uart (if d = 0 then warn .zeroDiv s else { s with uart := { s.uart with div := d } })

/-- `EV UART.RXCHAR` (R358). -/
def execEvUartRxChar (b : Byte) (s : State) : Host.Outcome State Fault Refusal :=
  hook .uart (serRxChar .uart b s)

/-- `EV UART.RESET` (R359, R520). -/
def execEvUartReset (s : State) : Host.Outcome State Fault Refusal :=
  hook .uart (portReset .uart (rbReset .uart s))

end Sys2Proof.Machine
end

