-- ==== Sys2Proof/Machine/Uart16550.lean ====
section
/-! DEFINITION. The UART16550 window, register by register, and its events (R370 to R387). Which Register offsets 0x00 and 0x04 reach is the decoder's question (R120, log 8): a meaning here is that of the Register its instruction names. -/

namespace Sys2Proof.Machine

/-- `RD UART16550.RBR` (R371): pop, then the post-read hook. -/
def execRdUart16550Rbr (s : State) : Host.Outcome State Fault Refusal :=
  let r := serDataRead .uart16550 s
  doneWord r.1 (updateInterrupts .uart16550 r.2)

/-- `WR UART16550.THR` (R372). -/
def execWrUart16550Thr (v : Word) (s : State) : Host.Outcome State Fault Refusal :=
  hook .uart16550 (serDataWrite .uart16550 (v.extractLsb' 0 8) s)

/-- `RD UART16550.DLL` (R373). -/
def execRdUart16550Dll (s : State) : Host.Outcome State Fault Refusal := doneWord (fieldAt s.u16.dll 0) s

/-- `WR UART16550.DLL` (R374): no zero check. -/
def execWrUart16550Dll (v : Word) (s : State) : Host.Outcome State Fault Refusal :=
  hook .uart16550 { s with u16 := { s.u16 with dll := v.extractLsb' 0 8 } }

/-- The `IER` word (R52, R375). -/
def ierWord (u : Uart16550) : Word := flagAt u.erbfi 0 ||| flagAt u.etbei 1 ||| flagAt u.elsi 2

/-- `RD UART16550.IER` (R375). -/
def execRdUart16550Ier (s : State) : Host.Outcome State Fault Refusal := doneWord (ierWord s.u16) s

/-- `WR UART16550.IER` (R376). -/
def execWrUart16550Ier (v : Word) (s : State) : Host.Outcome State Fault Refusal :=
  hook .uart16550
    { s with u16 := { s.u16 with erbfi := v.getLsbD 0, etbei := v.getLsbD 1, elsi := v.getLsbD 2 } }

/-- `RD UART16550.DLH` (R377). -/
def execRdUart16550Dlh (s : State) : Host.Outcome State Fault Refusal := doneWord (fieldAt s.u16.dlh 0) s

/-- `WR UART16550.DLH` (R379): no zero check. -/
def execWrUart16550Dlh (v : Word) (s : State) : Host.Outcome State Fault Refusal :=
  hook .uart16550 { s with u16 := { s.u16 with dlh := v.extractLsb' 0 8 } }

/-- `RD UART16550.IIR` (R378): clears nothing. -/
def execRdUart16550Iir (s : State) : Host.Outcome State Fault Refusal := doneWord (iirWord s) s

/-- `WR UART16550.FCR` (R380), fields in ascending bit order. -/
def execWrUart16550Fcr (v : Word) (s : State) : Host.Outcome State Fault Refusal :=
  let s1 := { s with u16 := { s.u16 with fifoEn := v.getLsbD 0 } }
  let s2 := if v.getLsbD 1 then clearFifo ⟨.uart16550, .rx⟩ s1 else s1
  let s3 := if v.getLsbD 2 then clearFifo ⟨.uart16550, .tx⟩ s2 else s2
  hook .uart16550 { s3 with u16 := { s3.u16 with trig := v.extractLsb' 6 2 } }

/-- `RD UART16550.LCR` (R381). -/
def execRdUart16550Lcr (s : State) : Host.Outcome State Fault Refusal := doneWord (fieldAt s.u16.lcr 0) s

/-- `WR UART16550.LCR` (R382): `map_sel` stays, whatever bit 7 is. -/
def execWrUart16550Lcr (v : Word) (s : State) : Host.Outcome State Fault Refusal :=
  hook .uart16550 { s with u16 := { s.u16 with lcr := v.extractLsb' 0 8 } }

/-- `RD UART16550.LSR` (R383): the flag is returned as it was, then cleared, then the post-read hook. -/
def execRdUart16550Lsr (s : State) : Host.Outcome State Fault Refusal :=
  doneWord (lsrWord s.u16.port) (updateInterrupts .uart16550 (clearOverrun .uart16550 s))

/-- `WR UART16550.LSR` (R384): every field is read-only. -/
def execWrUart16550Lsr (_v : Word) (s : State) : Host.Outcome State Fault Refusal := hook .uart16550 s

/-- `EV UART16550.RXCHAR` (R385). -/
def execEvUart16550RxChar (b : Byte) (s : State) : Host.Outcome State Fault Refusal :=
  hook .uart16550 (serRxChar .uart16550 b s)

/-- `EV UART16550.SETMAP` (R386). -/
def execEvUart16550SetMap (sel : Bool) (s : State) : Host.Outcome State Fault Refusal :=
  hook .uart16550 { s with u16 := { s.u16 with mapSel := sel } }

/-- `EV UART16550.RESET` (R387, R520). -/
def execEvUart16550Reset (s : State) : Host.Outcome State Fault Refusal :=
  let s1 := portReset .uart16550 (rbReset .uart16550 s)
  hook .uart16550 { s1 with u16 := { s1.u16 with mapSel := false } }

end Sys2Proof.Machine
end

