-- ==== Sys2Proof/Machine/Dispatch.lean ====
section
/-! DEFINITION. The dispatch: one arm per stimulus, each one call of its meaning. -/

namespace Sys2Proof.Machine

/-- The meaning of a stimulus: one whole atomic step of the block (R14, R110). -/
def exec (i : Instr) (s : State) : Host.Outcome State Fault Refusal :=
  match i with
  | .rdGpioData => Sys2Proof.Machine.execRdGpioData s
  | .wrGpioData v => Sys2Proof.Machine.execWrGpioData v s
  | .rdGpioDir => Sys2Proof.Machine.execRdGpioDir s
  | .wrGpioDir v => Sys2Proof.Machine.execWrGpioDir v s
  | .rdGpioIe => Sys2Proof.Machine.execRdGpioIe s
  | .wrGpioIe v => Sys2Proof.Machine.execWrGpioIe v s
  | .rdGpioIs => Sys2Proof.Machine.execRdGpioIs s
  | .wrGpioIs v => Sys2Proof.Machine.execWrGpioIs v s
  | .rdGpioIt => Sys2Proof.Machine.execRdGpioIt s
  | .wrGpioIt v => Sys2Proof.Machine.execWrGpioIt v s
  | .rdGpioIp => Sys2Proof.Machine.execRdGpioIp s
  | .wrGpioIp v => Sys2Proof.Machine.execWrGpioIp v s
  | .rdGpioEdge => Sys2Proof.Machine.execRdGpioEdge s
  | .wrGpioEdge v => Sys2Proof.Machine.execWrGpioEdge v s
  | .evGpioPin pin level => Sys2Proof.Machine.execEvGpioPin pin level s
  | .evGpioReset => Sys2Proof.Machine.execEvGpioReset s
  | .rdUartData => Sys2Proof.Machine.execRdUartData s
  | .wrUartData v => Sys2Proof.Machine.execWrUartData v s
  | .rdUartStatus => Sys2Proof.Machine.execRdUartStatus s
  | .wrUartStatus v => Sys2Proof.Machine.execWrUartStatus v s
  | .rdUartControl => Sys2Proof.Machine.execRdUartControl s
  | .wrUartControl v => Sys2Proof.Machine.execWrUartControl v s
  | .rdUartBaud => Sys2Proof.Machine.execRdUartBaud s
  | .wrUartBaud v => Sys2Proof.Machine.execWrUartBaud v s
  | .evUartRxChar b => Sys2Proof.Machine.execEvUartRxChar b s
  | .evUartReset => Sys2Proof.Machine.execEvUartReset s
  | .rdUart16550Rbr => Sys2Proof.Machine.execRdUart16550Rbr s
  | .wrUart16550Thr v => Sys2Proof.Machine.execWrUart16550Thr v s
  | .rdUart16550Dll => Sys2Proof.Machine.execRdUart16550Dll s
  | .wrUart16550Dll v => Sys2Proof.Machine.execWrUart16550Dll v s
  | .rdUart16550Ier => Sys2Proof.Machine.execRdUart16550Ier s
  | .wrUart16550Ier v => Sys2Proof.Machine.execWrUart16550Ier v s
  | .rdUart16550Dlh => Sys2Proof.Machine.execRdUart16550Dlh s
  | .wrUart16550Dlh v => Sys2Proof.Machine.execWrUart16550Dlh v s
  | .rdUart16550Iir => Sys2Proof.Machine.execRdUart16550Iir s
  | .wrUart16550Fcr v => Sys2Proof.Machine.execWrUart16550Fcr v s
  | .rdUart16550Lcr => Sys2Proof.Machine.execRdUart16550Lcr s
  | .wrUart16550Lcr v => Sys2Proof.Machine.execWrUart16550Lcr v s
  | .rdUart16550Lsr => Sys2Proof.Machine.execRdUart16550Lsr s
  | .wrUart16550Lsr v => Sys2Proof.Machine.execWrUart16550Lsr v s
  | .evUart16550RxChar b => Sys2Proof.Machine.execEvUart16550RxChar b s
  | .evUart16550SetMap sel => Sys2Proof.Machine.execEvUart16550SetMap sel s
  | .evUart16550Reset => Sys2Proof.Machine.execEvUart16550Reset s
  | .rdSpiControl => Sys2Proof.Machine.execRdSpiControl s
  | .wrSpiControl v => Sys2Proof.Machine.execWrSpiControl v s
  | .rdSpiData => Sys2Proof.Machine.execRdSpiData s
  | .wrSpiData v => Sys2Proof.Machine.execWrSpiData v s
  | .rdSpiStatus => Sys2Proof.Machine.execRdSpiStatus s
  | .wrSpiStatus v => Sys2Proof.Machine.execWrSpiStatus v s
  | .evSpiRxChar b => Sys2Proof.Machine.execEvSpiRxChar b s
  | .evSpiReset => Sys2Proof.Machine.execEvSpiReset s
  | .rdI2cControl => Sys2Proof.Machine.execRdI2cControl s
  | .wrI2cControl v => Sys2Proof.Machine.execWrI2cControl v s
  | .rdI2cData => Sys2Proof.Machine.execRdI2cData s
  | .wrI2cData v => Sys2Proof.Machine.execWrI2cData v s
  | .rdI2cStatus => Sys2Proof.Machine.execRdI2cStatus s
  | .wrI2cStatus v => Sys2Proof.Machine.execWrI2cStatus v s
  | .rdI2cClockDiv => Sys2Proof.Machine.execRdI2cClockDiv s
  | .wrI2cClockDiv v => Sys2Proof.Machine.execWrI2cClockDiv v s
  | .evI2cRxChar b => Sys2Proof.Machine.execEvI2cRxChar b s
  | .evI2cReset => Sys2Proof.Machine.execEvI2cReset s
  | .rdTimerControl => Sys2Proof.Machine.execRdTimerControl s
  | .wrTimerControl v => Sys2Proof.Machine.execWrTimerControl v s
  | .rdTimerValue => Sys2Proof.Machine.execRdTimerValue s
  | .wrTimerValue v => Sys2Proof.Machine.execWrTimerValue v s
  | .rdTimerReload => Sys2Proof.Machine.execRdTimerReload s
  | .wrTimerReload v => Sys2Proof.Machine.execWrTimerReload v s
  | .rdTimerPrescaler => Sys2Proof.Machine.execRdTimerPrescaler s
  | .wrTimerPrescaler v => Sys2Proof.Machine.execWrTimerPrescaler v s
  | .rdTimerStatus => Sys2Proof.Machine.execRdTimerStatus s
  | .wrTimerStatus v => Sys2Proof.Machine.execWrTimerStatus v s
  | .rdTimerCmpTarget k => Sys2Proof.Machine.execRdTimerCmpTarget k s
  | .wrTimerCmpTarget k v => Sys2Proof.Machine.execWrTimerCmpTarget k v s
  | .rdTimerCmpCtrl k => Sys2Proof.Machine.execRdTimerCmpCtrl k s
  | .wrTimerCmpCtrl k v => Sys2Proof.Machine.execWrTimerCmpCtrl k v s
  | .evTimerTick => Sys2Proof.Machine.execEvTimerTick s
  | .evTimerReset => Sys2Proof.Machine.execEvTimerReset s
  | .rdDmaControl => Sys2Proof.Machine.execRdDmaControl s
  | .wrDmaControl v => Sys2Proof.Machine.execWrDmaControl v s
  | .rdDmaChSrc n => Sys2Proof.Machine.execRdDmaChSrc n s
  | .wrDmaChSrc n v => Sys2Proof.Machine.execWrDmaChSrc n v s
  | .rdDmaChDst n => Sys2Proof.Machine.execRdDmaChDst n s
  | .wrDmaChDst n v => Sys2Proof.Machine.execWrDmaChDst n v s
  | .rdDmaChCount n => Sys2Proof.Machine.execRdDmaChCount n s
  | .wrDmaChCount n v => Sys2Proof.Machine.execWrDmaChCount n v s
  | .rdDmaChCtrl n => Sys2Proof.Machine.execRdDmaChCtrl n s
  | .wrDmaChCtrl n v => Sys2Proof.Machine.execWrDmaChCtrl n v s
  | .evDmaReq ch => Sys2Proof.Machine.execEvDmaReq ch s
  | .evDmaReset => Sys2Proof.Machine.execEvDmaReset s
  | .rdIntcEnable => Sys2Proof.Machine.execRdIntcEnable s
  | .wrIntcEnable v => Sys2Proof.Machine.execWrIntcEnable v s
  | .rdIntcPending => Sys2Proof.Machine.execRdIntcPending s
  | .wrIntcPending v => Sys2Proof.Machine.execWrIntcPending v s
  | .rdIntcPriority n => Sys2Proof.Machine.execRdIntcPriority n s
  | .wrIntcPriority n v => Sys2Proof.Machine.execWrIntcPriority n v s
  | .evIntcSrc src level => Sys2Proof.Machine.execEvIntcSrc src level s
  | .evIntcReset => Sys2Proof.Machine.execEvIntcReset s
  | .opRbRead bank off => Sys2Proof.Machine.execOpRbRead bank off s
  | .opRbWrite bank off v => Sys2Proof.Machine.execOpRbWrite bank off v s
  | .opRbReset bank => Sys2Proof.Machine.execOpRbReset bank s
  | .opRbDefine bank => Sys2Proof.Machine.execOpRbDefine bank s
  | .opFifoPush q b => Sys2Proof.Machine.execOpFifoPush q b s
  | .opFifoPop q => Sys2Proof.Machine.execOpFifoPop q s
  | .opFifoCount q => Sys2Proof.Machine.execOpFifoCount q s
  | .opFifoIsFull q => Sys2Proof.Machine.execOpFifoIsFull q s
  | .opFifoIsEmpty q => Sys2Proof.Machine.execOpFifoIsEmpty q s
  | .opFifoClear q => Sys2Proof.Machine.execOpFifoClear q s
  | .opLineSet line level => Sys2Proof.Machine.execOpLineSet line level s
  | .opAggOr line sources => Sys2Proof.Machine.execOpAggOr line sources s
  | .opAggPrio line sources => Sys2Proof.Machine.execOpAggPrio line sources s
  | .opAggSnapshot sources => Sys2Proof.Machine.execOpAggSnapshot sources s
  | .opTchTick => Sys2Proof.Machine.execOpTchTick s
  | .opTchStart => Sys2Proof.Machine.execOpTchStart s
  | .opTchStop => Sys2Proof.Machine.execOpTchStop s
  | .opCmpEval k => Sys2Proof.Machine.execOpCmpEval k s
  | .opDchConfigure c src dst count => Sys2Proof.Machine.execOpDchConfigure c src dst count s
  | .opDchSetEnabled c b => Sys2Proof.Machine.execOpDchSetEnabled c b s
  | .opDchTrigger c => Sys2Proof.Machine.execOpDchTrigger c s
  | .opDmaRequest n => Sys2Proof.Machine.execOpDmaRequest n s
  | .opSerDataWrite core b => Sys2Proof.Machine.execOpSerDataWrite core b s
  | .opSerDataRead core => Sys2Proof.Machine.execOpSerDataRead core s
  | .opSerRxChar core b => Sys2Proof.Machine.execOpSerRxChar core b s
  | .opSerDrain core => Sys2Proof.Machine.execOpSerDrain core s

end Sys2Proof.Machine
end

