-- ==== Sys2Proof/Machine/Step.lean ====
section
/-! DEFINITION. One step of the block: the next stimulus of the one total order (R99) is taken off the queue, decoded under the current `map_sel` (R115, R120) and executed whole (R14). -/

namespace Sys2Proof.Machine

/-- One step. With no stimulus to take the block is at rest (R22, R501): it never acts on its own. A raw stimulus that
spells none is refused by name (R119 (f), U8). -/
def step (s : State) : Host.Outcome State Fault Refusal :=
  match s.input with
  | [] => .next s
  | r :: rs =>
    match decode s.u16.mapSel r with
    | .error e => .refused (.notAStimulus e)
    | .ok i => exec i { s with input := rs }

/-- An agent issues the stimulus a table word spells, ahead of what is queued (log 1): the next step takes exactly it. -/
def State.withFetchWord (s : State) (nbits w : Nat) : State := { s with input := rawOfNat nbits w :: s.input }

end Sys2Proof.Machine
end

