-- ==== Sys2Proof/Machine/Pseudo.lean ====
section
/-! DEFINITION. The pseudo-stimuli of R122 as the sequences of stimuli they stand for. `W1C <reg>, <m>` is `WR <reg>, <m>` and needs no text of its own. -/

namespace Sys2Proof.Machine

/-- Execute stimuli in order, each whole before the next (R99); stop where one stops. -/
def execAll : List Instr → State → Host.Outcome State Fault Refusal
  | [], s => .next s
  | i :: is, s => andThen (exec i s) (execAll is)

/-- `TICKS n` (R122). -/
def ticks (n : Nat) : List Instr := List.replicate n .evTimerTick

/-- `CFG DMA.CH[n], s, d, c`: the source's `Configure` over the bus (R122, R263). -/
def cfgDma (n : BitVec 3) (src dst count : Word) : List Instr :=
  [.wrDmaChSrc n src, .wrDmaChDst n dst, .wrDmaChCount n count]

/-- `EV <W>.RXCHAR b` (R113). -/
def rxChar : Serial → Byte → Instr
  | .uart, b => .evUartRxChar b
  | .uart16550, b => .evUart16550RxChar b
  | .spi, b => .evSpiRxChar b
  | .i2c, b => .evI2cRxChar b

/-- `RXSTR <W>, b0 b1 ...` (R122). -/
def rxStr (w : Serial) (bs : List Byte) : List Instr := bs.map (rxChar w)

/-- `BusRead(W, off)` as the block executes it: the decoded read under the current mapping (R93, R115). -/
def busRead (w : Window) (off : BitVec 12) (s : State) : Host.Outcome State Fault Refusal :=
  exec (decodeRead s.u16.mapSel w off) s

/-- `BusWrite(W, off, v)` as the block executes it (R93, R115). -/
def busWrite (w : Window) (off : BitVec 12) (v : Word) (s : State) : Host.Outcome State Fault Refusal :=
  exec (decodeWrite s.u16.mapSel w off v) s

/-- `EV <W>.RESET` (R113, R520). -/
def resetEvent : Window → Instr
  | .gpio => .evGpioReset
  | .uart => .evUartReset
  | .uart16550 => .evUart16550Reset
  | .spi => .evSpiReset
  | .i2c => .evI2cReset
  | .timer => .evTimerReset
  | .dma => .evDmaReset
  | .intc => .evIntcReset

/-- `RMW <reg>, <clr>, <set>`: two steps, not atomic for another agent (R122, R531). -/
def rmw (w : Window) (off : BitVec 12) (clr set : Word) (s : State) : Host.Outcome State Fault Refusal :=
  andThen (busRead w off s) fun s1 =>
    match s1.result with
    | .word t => busWrite w off ((t &&& ~~~clr) ||| set) s1
    | _ => .next s1

end Sys2Proof.Machine
end

