-- ==== Sys2Proof/Safety.lean ====
section
/-! DEFINITION. What the claims speak of: the invariant of the block (R86 and the bounds of the state), which window a stimulus addresses, and the frame of a stimulus: what it leaves unchanged, which line it settles, what it adds to the trace. -/

namespace Sys2Proof.Machine

/-! ## The invariant -/

/-- Every list has the length its count parameter gives (R8, R28, R30, R81). -/
abbrev LengthsOk (s : State) : Prop :=
  s.timer.cmp.length = s.cfg.nCmp ∧ s.dma.ch.length = s.cfg.nDmaCh ∧ s.intc.prio.length = s.cfg.nIrqSrc

/-- A port: never more bytes than the capacity (R86 (a)), and no overrun flag under `DropSilent` (R301). -/
abbrev PortOk (cap : Nat) (policy : OvrPolicy) (p : Port) : Prop :=
  p.tx.length ≤ cap ∧ p.rx.length ≤ cap ∧ (policy = .dropSilent → p.overrun = false)

/-- The four ports. -/
abbrev PortsOk (s : State) : Prop :=
  PortOk s.cfg.fifoCap s.cfg.ovrUart s.uart.port ∧ PortOk s.cfg.fifoCap s.cfg.ovrU16 s.u16.port ∧
    PortOk s.cfg.fifoCap s.cfg.ovrSpi s.spi.port ∧ PortOk s.cfg.fifoCap s.cfg.ovrI2c s.i2c.port

/-- `timer.prescaler >= 1` and `0 <= timer.presc_cnt < timer.prescaler` (R86 (b)). -/
abbrev TimerOk (t : Timer) : Prop := 1 ≤ t.prescaler.toNat ∧ t.prescCnt < t.prescaler.toNat

/-- No bit above the implemented pins or sources (R36, R81). -/
abbrev MasksOk (s : State) : Prop :=
  s.gpio.inp &&& ~~~gpioMask s.cfg = 0 ∧ s.gpio.out &&& ~~~gpioMask s.cfg = 0 ∧
    s.gpio.dir &&& ~~~gpioMask s.cfg = 0 ∧ s.gpio.ie &&& ~~~gpioMask s.cfg = 0 ∧
    s.gpio.is &&& ~~~gpioMask s.cfg = 0 ∧ s.gpio.it &&& ~~~gpioMask s.cfg = 0 ∧
    s.gpio.ip &&& ~~~gpioMask s.cfg = 0 ∧ s.gpio.edge &&& ~~~gpioMask s.cfg = 0 ∧
    s.intc.enable &&& ~~~irqMask s.cfg = 0 ∧ s.intc.pending &&& ~~~irqMask s.cfg = 0

/-- The divisors are never 0 (R154, R357, R406). -/
abbrev DivisorsOk (s : State) : Prop := s.uart.div ≠ 0 ∧ s.i2c.div ≠ 0

/-- The invariant that every step keeps. -/
abbrev State.Inv (s : State) : Prop :=
  s.cfg.Legal ∧ LengthsOk s ∧ PortsOk s ∧ TimerOk s.timer ∧ MasksOk s ∧ DivisorsOk s ∧ Memory.wf s.mem = true

/-- Every line has the level its aggregation rule gives (R86 (d), R200). -/
abbrev LinesAgree (s : State) : Prop :=
  s.lines.gpio = lineLevel .gpio s ∧ s.lines.uart = lineLevel .uart s ∧
    s.lines.uart16550 = lineLevel .uart16550 s ∧ s.lines.spi = lineLevel .spi s ∧ s.lines.i2c = lineLevel .i2c s ∧
    s.lines.timer = lineLevel .timer s ∧ s.lines.dma = lineLevel .dma s ∧ s.lines.intc = lineLevel .intc s

/-! ## The window of a stimulus -/

/-- The window a bus access or an event addresses; `none` for the component operations that are no bus access (R110).
`OP RB.READ` and `OP RB.WRITE` are the bus accesses of their bank (R140). -/
def stimulusWindow : Instr → Option Window
  | .rdGpioData => some .gpio
  | .wrGpioData _ => some .gpio
  | .rdGpioDir => some .gpio
  | .wrGpioDir _ => some .gpio
  | .rdGpioIe => some .gpio
  | .wrGpioIe _ => some .gpio
  | .rdGpioIs => some .gpio
  | .wrGpioIs _ => some .gpio
  | .rdGpioIt => some .gpio
  | .wrGpioIt _ => some .gpio
  | .rdGpioIp => some .gpio
  | .wrGpioIp _ => some .gpio
  | .rdGpioEdge => some .gpio
  | .wrGpioEdge _ => some .gpio
  | .evGpioPin _ _ => some .gpio
  | .evGpioReset => some .gpio
  | .rdUartData => some .uart
  | .wrUartData _ => some .uart
  | .rdUartStatus => some .uart
  | .wrUartStatus _ => some .uart
  | .rdUartControl => some .uart
  | .wrUartControl _ => some .uart
  | .rdUartBaud => some .uart
  | .wrUartBaud _ => some .uart
  | .evUartRxChar _ => some .uart
  | .evUartReset => some .uart
  | .rdUart16550Rbr => some .uart16550
  | .wrUart16550Thr _ => some .uart16550
  | .rdUart16550Dll => some .uart16550
  | .wrUart16550Dll _ => some .uart16550
  | .rdUart16550Ier => some .uart16550
  | .wrUart16550Ier _ => some .uart16550
  | .rdUart16550Dlh => some .uart16550
  | .wrUart16550Dlh _ => some .uart16550
  | .rdUart16550Iir => some .uart16550
  | .wrUart16550Fcr _ => some .uart16550
  | .rdUart16550Lcr => some .uart16550
  | .wrUart16550Lcr _ => some .uart16550
  | .rdUart16550Lsr => some .uart16550
  | .wrUart16550Lsr _ => some .uart16550
  | .evUart16550RxChar _ => some .uart16550
  | .evUart16550SetMap _ => some .uart16550
  | .evUart16550Reset => some .uart16550
  | .rdSpiControl => some .spi
  | .wrSpiControl _ => some .spi
  | .rdSpiData => some .spi
  | .wrSpiData _ => some .spi
  | .rdSpiStatus => some .spi
  | .wrSpiStatus _ => some .spi
  | .evSpiRxChar _ => some .spi
  | .evSpiReset => some .spi
  | .rdI2cControl => some .i2c
  | .wrI2cControl _ => some .i2c
  | .rdI2cData => some .i2c
  | .wrI2cData _ => some .i2c
  | .rdI2cStatus => some .i2c
  | .wrI2cStatus _ => some .i2c
  | .rdI2cClockDiv => some .i2c
  | .wrI2cClockDiv _ => some .i2c
  | .evI2cRxChar _ => some .i2c
  | .evI2cReset => some .i2c
  | .rdTimerControl => some .timer
  | .wrTimerControl _ => some .timer
  | .rdTimerValue => some .timer
  | .wrTimerValue _ => some .timer
  | .rdTimerReload => some .timer
  | .wrTimerReload _ => some .timer
  | .rdTimerPrescaler => some .timer
  | .wrTimerPrescaler _ => some .timer
  | .rdTimerStatus => some .timer
  | .wrTimerStatus _ => some .timer
  | .rdTimerCmpTarget _ => some .timer
  | .wrTimerCmpTarget _ _ => some .timer
  | .rdTimerCmpCtrl _ => some .timer
  | .wrTimerCmpCtrl _ _ => some .timer
  | .evTimerTick => some .timer
  | .evTimerReset => some .timer
  | .rdDmaControl => some .dma
  | .wrDmaControl _ => some .dma
  | .rdDmaChSrc _ => some .dma
  | .wrDmaChSrc _ _ => some .dma
  | .rdDmaChDst _ => some .dma
  | .wrDmaChDst _ _ => some .dma
  | .rdDmaChCount _ => some .dma
  | .wrDmaChCount _ _ => some .dma
  | .rdDmaChCtrl _ => some .dma
  | .wrDmaChCtrl _ _ => some .dma
  | .evDmaReq _ => some .dma
  | .evDmaReset => some .dma
  | .rdIntcEnable => some .intc
  | .wrIntcEnable _ => some .intc
  | .rdIntcPending => some .intc
  | .wrIntcPending _ => some .intc
  | .rdIntcPriority _ => some .intc
  | .wrIntcPriority _ _ => some .intc
  | .evIntcSrc _ _ => some .intc
  | .evIntcReset => some .intc
  | .opRbRead bank _ => some bank
  | .opRbWrite bank _ _ => some bank
  | .opRbReset _ => none
  | .opRbDefine _ => none
  | .opFifoPush _ _ => none
  | .opFifoPop _ => none
  | .opFifoCount _ => none
  | .opFifoIsFull _ => none
  | .opFifoIsEmpty _ => none
  | .opFifoClear _ => none
  | .opLineSet _ _ => none
  | .opAggOr _ _ => none
  | .opAggPrio _ _ => none
  | .opAggSnapshot _ => none
  | .opTchTick => none
  | .opTchStart => none
  | .opTchStop => none
  | .opCmpEval _ => none
  | .opDchConfigure _ _ _ _ => none
  | .opDchSetEnabled _ _ => none
  | .opDchTrigger _ => none
  | .opDmaRequest _ => none
  | .opSerDataWrite _ _ => none
  | .opSerDataRead _ => none
  | .opSerRxChar _ _ => none
  | .opSerDrain _ => none

/-- Can a stimulus make a DMA transfer (R266), the only thing that writes `Mem` (R32)? -/
def mayTransfer : Instr → Bool
  | .wrDmaChCtrl _ v => v.getLsbD 1
  | .evDmaReq _ => true
  | .opDchTrigger _ => true
  | .opDmaRequest _ => true
  | .opRbWrite bank _ v => bank == .dma && v.getLsbD 1
  | _ => false

/-! ## Frames -/

/-- The component state of one window is unchanged (R19). -/
def windowSame (w : Window) (s t : State) : Prop :=
  match w with
  | .gpio => t.gpio = s.gpio
  | .uart => t.uart = s.uart
  | .uart16550 => t.u16 = s.u16
  | .spi => t.spi = s.spi
  | .i2c => t.i2c = s.i2c
  | .timer => t.timer = s.timer
  | .dma => t.dma = s.dma
  | .intc => t.intc = s.intc

/-- Every window but `w` is unchanged, its line too; so are the parameters and the queue of stimuli. -/
def OnlyWindow (w : Window) (s t : State) : Prop :=
  t.cfg = s.cfg ∧ t.input = s.input ∧ ∀ x, x ≠ w → windowSame x s t ∧ lineOf x t = lineOf x s

/-- Every byte of `Mem` reads as before. -/
def MemSame (s t : State) : Prop := ∀ a, memRead t.mem a = memRead s.mem a

/-- The notification that a change of `w`'s line from `s` to `t` adds to the trace (R191). -/
def lineNotice (w : Window) (s t : State) : List Output :=
  if lineOf w t = lineOf w s then [] else [.notify w (lineOf w t)]

/-- The line of `w` has the level the table of R200 gives for `t`, and the trace has grown by `outs`, then by the
notification of that line if its level changed. -/
def Settled (w : Window) (outs : List Output) (s t : State) : Prop :=
  lineOf w t = lineLevel w t ∧ t.trace = s.trace ++ outs ++ lineNotice w s t

/-- The frame of a stimulus to window `w` that moves no memory: nothing outside the window changes, the window's line is
settled, `outs` is what it emits before the notification, and `r` what it returns. What it does inside the window is
stated beside. -/
def Framed (w : Window) (outs : List Output) (r : Result) (s t : State) : Prop :=
  OnlyWindow w s t ∧ MemSame s t ∧ Settled w outs s t ∧ t.result = r

/-- The frame of a component operation on the components of window `w`: no line is recomputed. -/
def Unsettled (w : Window) (outs : List Output) (r : Result) (s t : State) : Prop :=
  OnlyWindow w s t ∧ lineOf w t = lineOf w s ∧ MemSame s t ∧ t.trace = s.trace ++ outs ∧ t.result = r

/-- The registers for which R154 says that round-trip stability holds without exception, in the window under a mapping. -/
def storageOffset (c : Config) (mapSel : Bool) (w : Window) (off : Nat) : Prop :=
  match w with
  | .gpio => off = 0x04 ∨ (c.gpioExt = true ∧ (off = 0x08 ∨ off = 0x10 ∨ off = 0x14 ∨ off = 0x18))
  | .uart => off = 0x08 ∨ off = 0x0C
  | .uart16550 => off = 0x04 ∨ off = 0x0C ∨ (off = 0x00 ∧ mapSel = true)
  | .spi => off = 0x00
  | .i2c => off = 0x00 ∨ off = 0x0C
  | .timer => off = 0x08 ∨ off = 0x0C ∨ ∃ k, k < c.nCmp ∧ off = cmpOff k 0
  | .dma => off = 0x00 ∨ ∃ n, n < c.nDmaCh ∧ (off = chOff n 0x0 ∨ off = chOff n 0x4 ∨ off = chOff n 0x8)
  | .intc => off = 0x00 ∨ ∃ n, n < c.nIrqSrc ∧ off = prioOff n

/-! ## Words for the claims -/

/-- The stimulus completes, returns `x` and changes nothing else: a pure read (R95). -/
def ReadsAs (i : Instr) (s : State) (x : Word) : Prop := exec i s = .next { s with result := .word x }

/-- The read of a serial window's data register. -/
def dataRead : Serial → Instr
  | .uart => .rdUartData
  | .uart16550 => .rdUart16550Rbr
  | .spi => .rdSpiData
  | .i2c => .rdI2cData

/-- The write of a serial window's data register. -/
def dataWrite : Serial → Word → Instr
  | .uart, v => .wrUartData v
  | .uart16550, v => .wrUart16550Thr v
  | .spi, v => .wrSpiData v
  | .i2c, v => .wrI2cData v

/-- After a copy, each byte of the destination range reads the former byte of the source range, and every other byte reads as
before (R96). -/
def Copied (src dst count : Word) (s t : State) : Prop :=
  (∀ a : Word, memRead t.mem a.toNat =
    if (a - dst).toNat < count.toNat then memRead s.mem (src + (a - dst)).toNat else memRead s.mem a.toNat) ∧
  ∀ a, 2 ^ 32 ≤ a → memRead t.mem a = memRead s.mem a

/-- A transfer of channel `n`, as `c` configures it, has taken `s` to `t`: the copy, the flag when `ie` is set, one
`MEMCOPY` in the trace, the line settled, nothing else (R266, R269). -/
def Transferred (n : Nat) (c : DmaChannel) (s t : State) : Prop :=
  OnlyWindow .dma s t ∧ Copied c.src c.dst c.count s t ∧
    t.dma = { s.dma with ch := s.dma.ch.set n { c with pending := c.pending || c.ie } } ∧
    Settled .dma [.memcopy c.src c.dst c.count] s t ∧ t.result = .nothing

/-- Does bit `i` of a word belong to a field? -/
def fieldHas (f : FieldDesc) (i : Nat) : Prop := f.lo.toNat ≤ i ∧ i < f.lo.toNat + f.width.toNat

/-- The clauses of R153, each under the code of `fatal` that R484 gives it. -/
def bankClause : FatalCode → List RegDesc → Prop
  | .fOffset, bank => ∀ r ∈ bank, r.off.toNat % 4 = 0 ∧ r.off.toNat < 0x1000
  | .fDupOffset, bank => bank.Pairwise (fun a b => sameSpace a b = true → a.off ≠ b.off)
  | .fFieldRange, bank =>
    ∀ r ∈ bank, ∀ f ∈ r.fields, 1 ≤ f.width.toNat ∧ f.width.toNat ≤ 32 ∧ f.lo.toNat + f.width.toNat ≤ 32
  | .fOverlap, bank => ∀ r ∈ bank, r.fields.Pairwise (fun f g => ∀ i, ¬(fieldHas f i ∧ fieldHas g i))
  | .fResetWidth, bank => ∀ r ∈ bank, ∀ f ∈ r.fields, f.reset.toNat < 2 ^ f.width.toNat
  | .fReservedNonzero, bank =>
    ∀ r ∈ bank, ∀ i, r.fatalReserved.getLsbD i = true → (∀ f ∈ r.fields, ¬fieldHas f i) → r.resetWord.getLsbD i = false

/-- A bank is well formed when it fails no clause of R153. -/
def BankWellFormed (bank : List RegDesc) : Prop := ∀ c, bankClause c bank

/-- The bits of a Register that some field of it covers: the rest is reserved (R24, R146). -/
def implementedBits (c : Config) (r : Register) : Word := ~~~reservedBits (regDescOf c r)

/-- Is an output a notification? -/
def isNotify : Output → Bool
  | .notify _ _ => true
  | .tx _ _ => false
  | .memcopy _ _ _ => false
  | .warn _ => false

end Sys2Proof.Machine
end

