-- ==== Sys2Proof/Certificates/Slice0/Obligations.lean ====
section
/-! DEFINITION. The statements for the provers. Each docstring names the rules of spec/ it rests on; OBLIGATIONS.json has the rest. `Framed`, `Unsettled`, `ReadsAs` and the other words of the statements are in Safety.lean. -/

open Sys2Proof Sys2Proof.Machine

/-! ## Encoding -/

/-- Every well-formed stimulus, encoded, decodes to itself under the mapping that reaches it (R111 to R114, R117, R120). The
operand words of the component operations are the model's (log 5). -/
def Obligations.DecodeInvertsEncode : Prop :=
  ∀ (i : Instr) (ms : Bool), i.wf = true → i.mapping.active ms = true → decode ms (encode i) = .ok i

/-- The decoder answers well-formed stimuli only, and a Register only under its mapping (R117, R120, R199). -/
def Obligations.DecodedStimuliAreWellFormed : Prop :=
  ∀ (ms : Bool) (r : RawStimulus) (i : Instr), decode ms r = .ok i → i.wf = true ∧ i.mapping.active ms = true

/-- Which keys spell no stimulus, and under which name each is refused; every bus key spells one, and of the operation keys
those that R114 lists (R111, R113, R114, R119). That a snapshot of more than 32 sources and words that spell no Register list
are refused is about the model's own operand words (logs 5 and 16). -/
def Obligations.UndefinedKeysAreRefused : Prop :=
  ∀ (ms : Bool) (pid cls : BitVec 4) (arg : BitVec 12) (d : Word) (ops : List Word),
    let r : RawStimulus := ⟨pid ++ cls ++ arg, d, ops⟩
    (4 ≤ cls.toNat → decode ms r = .error .badClass) ∧
    (cls.toNat ≤ 2 → 8 ≤ pid.toNat → decode ms r = .error .badPid) ∧
    (cls = 3 → pid ≠ 0xF → decode ms r = .error .badPid) ∧
    (cls.toNat ≤ 1 → pid.toNat ≤ 7 → ∃ i, decode ms r = .ok i) ∧
    (cls = 2 → pid.toNat ≤ 7 →
      if arg.toNat ≤ 1 ∨ (arg = 2 ∧ pid = 2) then ∃ i, decode ms r = .ok i else decode ms r = .error .badEvent) ∧
    (cls = 3 → pid = 0xF →
      if arg.toNat ∉ [0x001, 0x002, 0x003, 0x004, 0x010, 0x011, 0x012, 0x013, 0x014, 0x015, 0x020, 0x021, 0x022, 0x023,
        0x030, 0x031, 0x032, 0x033, 0x040, 0x041, 0x042, 0x043, 0x050, 0x051, 0x052, 0x053]
      then decode ms r = .error .badOp
      else if arg = 0x004 then (∃ bank, decode ms r = .ok (.opRbDefine bank)) ∨ decode ms r = .error .badBank
      else if arg = 0x023 ∧ 32 < ops.length then decode ms r = .error .tooManySources
      else ∃ i, decode ms r = .ok i)

/-- Keys written out from R111 to R114 and R117 decode to the stimuli they stand for. -/
def Obligations.SpecKeysDecode : Prop :=
  decode false ⟨0x00018, 0, []⟩ = .ok .rdGpioEdge ∧
  decode false ⟨0x02001, 0x00010002, []⟩ = .ok (.evGpioPin 2 true) ∧
  decode false ⟨0x11008, 0x105, []⟩ = .ok (.wrUartControl 0x105) ∧
  decode false ⟨0x20000, 0, []⟩ = .ok .rdUart16550Rbr ∧
  decode true ⟨0x20000, 0, []⟩ = .ok .rdUart16550Dll ∧
  decode false ⟨0x31004, 0xA5, []⟩ = .ok (.wrSpiData 0xA5) ∧
  decode false ⟨0x4000C, 0, []⟩ = .ok .rdI2cClockDiv ∧
  decode false ⟨0x51034, 3, []⟩ = .ok (.wrTimerCmpCtrl 1 3) ∧
  decode false ⟨0x6116C, 7, []⟩ = .ok (.wrDmaChCtrl 3 7) ∧
  decode false ⟨0x7017C, 0, []⟩ = .ok (.rdIntcPriority 31) ∧
  decode false ⟨0xF3030, 0, []⟩ = .ok .opTchTick

/-- A step takes the head of the queue, decodes it under the current `map_sel` and executes it, whole, on the state without it
(R14, R99; the queue is the model's, log 1); a key that spells no stimulus is refused by name (R119 (f)); with nothing to take
the block is at rest (R501). -/
def Obligations.StepExecutesDecodedStimulus : Prop :=
  ∀ (s : State) (r : RawStimulus) (rs : List RawStimulus) (i : Instr) (e : DecodeError),
    (s.input = r :: rs → decode s.u16.mapSel r = .ok i → i.wf = true → step s = exec i { s with input := rs }) ∧
    (s.input = r :: rs → decode s.u16.mapSel r = .error e → step s = .refused (.notAStimulus e)) ∧
    (s.input = [] → step s = .next s)

/-- `map_sel` chooses the Register at offsets 0x00 and 0x04 of the UART16550 window and decides nothing else (R120). -/
def Obligations.MappingSelectsRegister : Prop :=
  (∀ r : RawStimulus, r.key ≠ 0x20000 → r.key ≠ 0x20004 → r.key ≠ 0x21000 → r.key ≠ 0x21004 →
    decode true r = decode false r) ∧
  (∀ (v : Word) (ops : List Word),
    decode false ⟨0x20000, v, ops⟩ = .ok .rdUart16550Rbr ∧ decode true ⟨0x20000, v, ops⟩ = .ok .rdUart16550Dll ∧
    decode false ⟨0x21000, v, ops⟩ = .ok (.wrUart16550Thr v) ∧ decode true ⟨0x21000, v, ops⟩ = .ok (.wrUart16550Dll v) ∧
    decode false ⟨0x20004, v, ops⟩ = .ok .rdUart16550Ier ∧ decode true ⟨0x20004, v, ops⟩ = .ok .rdUart16550Dlh ∧
    decode false ⟨0x21004, v, ops⟩ = .ok (.wrUart16550Ier v) ∧ decode true ⟨0x21004, v, ops⟩ = .ok (.wrUart16550Dlh v))

/-! ## RegisterBank -/

/-- Every bus access, as its register's own rule describes it, is the bank's generic field-by-field access (R140): the register
rules of files 46 to 48 refine R143 and R147. A read completes; a write completes when no window lies in `Mem`. -/
def Obligations.BusAccessIsBankAccess : Prop :=
  ∀ (w : Window) (off : BitVec 12) (v : Word) (s : State), s.Inv →
    busRead w off s = exec (.opRbRead w (off.setWidth 32)) s ∧
    busWrite w off v s = exec (.opRbWrite w (off.setWidth 32) v) s ∧
    (∃ t, busRead w off s = .next t) ∧ (s.cfg.bases = [] → ∃ t, busWrite w off v s = .next t)

/-- An unmatched read returns 0 and warns, and nothing else changes (R144); an offset that is not a multiple of 4, or at or
beyond the window's size, is unmatched (R115). -/
def Obligations.UnmatchedReadReturnsZero : Prop :=
  ∀ (w : Window) (off : Word) (s : State),
    (off.toNat % 4 ≠ 0 ∨ 0x1000 ≤ off.toNat ∨ windowSize s.cfg w ≤ off.toNat →
      lookup s.cfg s.u16.mapSel w true off.toNat = none) ∧
    (lookup s.cfg s.u16.mapSel w true off.toNat = none →
      exec (.opRbRead w off) s =
        .next { s with trace := s.trace ++ [.warn (.oorRead off.toNat)], result := .word 0 }) ∧
    (s.cfg.Legal → ∀ b : BitVec 12, lookup s.cfg s.u16.mapSel w true b.toNat = none →
      busRead w b s = .next { s with trace := s.trace ++ [.warn (.oorRead b.toNat)], result := .word 0 })

/-- An unmatched write is ignored and warns (R148). -/
def Obligations.UnmatchedWriteIsIgnored : Prop :=
  ∀ (w : Window) (off v : Word) (s : State),
    (off.toNat % 4 ≠ 0 ∨ 0x1000 ≤ off.toNat ∨ windowSize s.cfg w ≤ off.toNat →
      lookup s.cfg s.u16.mapSel w false off.toNat = none) ∧
    (lookup s.cfg s.u16.mapSel w false off.toNat = none →
      exec (.opRbWrite w off v) s =
        .next { s with trace := s.trace ++ [.warn (.oorWrite off.toNat)], result := .nothing }) ∧
    (s.cfg.Legal → ∀ b : BitVec 12, lookup s.cfg s.u16.mapSel w false b.toNat = none →
      busWrite w b v s = .next { s with trace := s.trace ++ [.warn (.oorWrite b.toNat)], result := .nothing })

/-- A matched bank read returns the OR of the packed field values as they stand before the read; without a `SideEffect`
field it changes nothing, with one it ends in `UpdateInterrupts` (R116, R143, R145, R151). -/
def Obligations.BankReadPacksFields : Prop :=
  ∀ (w : Window) (off : Word) (s : State) (r : Register),
    lookup s.cfg s.u16.mapSel w true off.toNat = some r →
    ∃ t, exec (.opRbRead w off) s = .next t ∧
      t.result = .word (r.fields.foldl (fun acc f =>
        acc ||| packField (fieldValue f s) (fieldDesc s.cfg f).lo.toNat (fieldDesc s.cfg f).width.toNat) 0) ∧
      ((∀ f ∈ r.fields, (fieldDesc s.cfg f).effect = .pure) → t = { s with result := t.result }) ∧
      ((∃ f ∈ r.fields, (fieldDesc s.cfg f).effect = .sideEffect) → lineOf w t = lineLevel w t) ∧
      OnlyWindow w s t ∧ MemSame s t

/-- Reserved bits read 0 and a write's reserved bits are discarded without an effect (R146). -/
def Obligations.ReservedBitsReadZeroAndAreDiscarded : Prop :=
  ∀ (w : Window) (off v : Word) (s : State) (r : Register),
    (lookup s.cfg s.u16.mapSel w true off.toNat = some r →
      ∀ t x, exec (.opRbRead w off) s = .next t → t.result = .word x → x &&& ~~~implementedBits s.cfg r = 0) ∧
    (lookup s.cfg s.u16.mapSel w false off.toNat = some r →
      exec (.opRbWrite w off v) s = exec (.opRbWrite w off (v &&& implementedBits s.cfg r)) s)

/-- Round-trip stability: at every register R154 lists, writing back the value read leaves the next read the same. -/
def Obligations.StorageRoundTripIsStable : Prop :=
  ∀ (w : Window) (off : BitVec 12) (x : Word) (s s1 : State), s.Inv →
    storageOffset s.cfg s.u16.mapSel w off.toNat → busRead w off s = .next s1 → s1.result = .word x →
    ∃ s2 s3, busWrite w off x s1 = .next s2 ∧ busRead w off s2 = .next s3 ∧ s3.result = .word x

/-- At every register R154 lists, a write of a value whose implemented bits are not all 0, over the bus or by `OP RB.WRITE`, is
read back as those bits (R116, R146, R149; a zero divisor is R357, R406, R428). -/
def Obligations.StorageReadsBackWhatWasWritten : Prop :=
  ∀ (w : Window) (off : BitVec 12) (v : Word) (s : State) (r : Register), s.Inv →
    storageOffset s.cfg s.u16.mapSel w off.toNat →
    lookup s.cfg s.u16.mapSel w false off.toNat = some r → v &&& implementedBits s.cfg r ≠ 0 →
    ∃ s1 s2, busWrite w off v s = .next s1 ∧ exec (.opRbWrite w (off.setWidth 32) v) s = .next s1 ∧
      busRead w off s1 = .next s2 ∧ exec (.opRbRead w (off.setWidth 32)) s1 = .next s2 ∧
      s2.result = .word (v &&& implementedBits s.cfg r)

/-- `OP RB.DEFINE` lets a well-formed bank pass and stops fatally on any other, with the code of a clause that fails; every
bank of the block is well formed (R153, R484). That the check
is the same in every state, also after other stimuli, is the model's choice (log 12). -/
def Obligations.DefinitionCheckIsR153 : Prop :=
  (∀ (bank : List RegDesc) (s : State), BankWellFormed bank →
    exec (.opRbDefine bank) s = .next { s with result := .nothing }) ∧
  (∀ (bank : List RegDesc) (s : State), ¬BankWellFormed bank →
    ∃ c, exec (.opRbDefine bank) s = .fault (.definition c) ∧ ¬bankClause c bank) ∧
  (∀ (c : Config) (w : Window), c.Legal → BankWellFormed (bankOf c w))

/-- `OP RB.RESET` sets every plain cell of the window to its declared reset value, and with them the storage behind `GPIO.DATA`,
the two `DIV` fields (1) and the stored fields of `FCR` (R37, R48, R55, R66); doing it twice is doing it once; no line is recomputed, and no other window changes (R152). That it keeps the queues, the latches, the hidden items and the channels of
the window, which R520 resets by other lines, is the model's reading of "cell" (log 10). -/
def Obligations.BankResetRestoresCells : Prop :=
  ∀ (w : Window) (s : State), s.Inv →
    ∃ t, exec (.opRbReset w) s = .next t ∧ Unsettled w [] .nothing s t ∧ exec (.opRbReset w) t = .next t ∧
      t.gpio.inp = s.gpio.inp ∧ t.gpio.is = s.gpio.is ∧ t.uart.port = s.uart.port ∧ t.u16.port = s.u16.port ∧
      t.u16.mapSel = s.u16.mapSel ∧ t.spi.port = s.spi.port ∧ t.i2c.port = s.i2c.port ∧ t.timer = s.timer ∧
      t.dma.ch = s.dma.ch ∧ t.intc.pending = s.intc.pending ∧
      (w = .gpio → t.gpio.out = 0) ∧ (w = .uart → t.uart.div = 1) ∧ (w = .i2c → t.i2c.div = 1) ∧
      (w = .uart16550 → t.u16.fifoEn = false ∧ t.u16.trig = 0) ∧
      ∀ r ∈ registersOf s.cfg w, ∀ f ∈ r.fields,
        (fieldDesc s.cfg f).mode = .rw → (fieldDesc s.cfg f).provider = false →
          fieldValue f t = (fieldDesc s.cfg f).reset

/-! ## FIFOQueue -/

/-- `FIFO.PUSH` (R171): a full queue rejects the byte and keeps everything, another takes it at the tail and nothing else
changes; the count stays within the capacity. -/
def Obligations.FifoPushAppendsOrRejects : Prop :=
  ∀ (q : FifoId) (b : Byte) (s : State),
    ((fifoOf q s).length = s.cfg.fifoCap → exec (.opFifoPush q b) s = .next { s with result := .bool false }) ∧
    ((fifoOf q s).length ≠ s.cfg.fifoCap →
      exec (.opFifoPush q b) s = .next { setFifo q (fifoOf q s ++ [b]) s with result := .bool true }) ∧
    ((fifoOf q s).length ≤ s.cfg.fifoCap →
      ∃ t, exec (.opFifoPush q b) s = .next t ∧ (fifoOf q t).length ≤ s.cfg.fifoCap)

/-- `FIFO.POP`, `COUNT`, `ISFULL`, `ISEMPTY`, `CLEAR` (R172 to R176). -/
def Obligations.FifoPopCountFullEmptyClear : Prop :=
  ∀ (q : FifoId) (s : State),
    (fifoOf q s = [] → exec (.opFifoPop q) s = .next { s with result := .byte none }) ∧
    (∀ b bs, fifoOf q s = b :: bs →
      exec (.opFifoPop q) s = .next { setFifo q bs s with result := .byte (some b) }) ∧
    exec (.opFifoCount q) s = .next { s with result := .count (fifoOf q s).length } ∧
    exec (.opFifoIsFull q) s = .next { s with result := .bool (decide ((fifoOf q s).length = s.cfg.fifoCap)) } ∧
    exec (.opFifoIsEmpty q) s = .next { s with result := .bool (decide ((fifoOf q s).length = 0)) } ∧
    exec (.opFifoClear q) s = .next { setFifo q [] s with result := .nothing }

/-- Any number of pushes on an empty queue keep the first `FIFO_CAP` bytes, in order: the count after `capacity` pushes is the
capacity and it is never more (R171, R173, R177). -/
def Obligations.PushesKeepTheFirstCapacityBytes : Prop :=
  ∀ (q : FifoId) (bs : List Byte) (s : State), fifoOf q s = [] →
    ∃ t, execAll (bs.map (Instr.opFifoPush q)) s = .next t ∧ fifoOf q t = bs.take s.cfg.fifoCap

/-! ## Interrupt lines -/

/-- `LINE.SET` (R191): the line gets the level, a change is notified once, nothing else changes. -/
def Obligations.LineSetNotifiesChanges : Prop :=
  ∀ (L : Window) (level : Bool) (s : State),
    ∃ t, exec (.opLineSet L level) s = .next t ∧ lineOf L t = level ∧ (∀ x, x ≠ L → lineOf x t = lineOf x s) ∧
      t.trace = s.trace ++ (if level = lineOf L s then [] else [.notify L level]) ∧
      { t with lines := s.lines, trace := s.trace, result := s.result } = s ∧ t.result = .nothing

/-- `AGG.OR` (R194): the line is asserted exactly when a source is enabled and pending; a change is notified, nothing else
changes. -/
def Obligations.OrAggregationDrivesLine : Prop :=
  ∀ (L : Window) (ss : List Source) (s : State),
    ∃ t, exec (.opAggOr L ss) s = .next t ∧
      (lineOf L t = true ↔ ∃ x ∈ ss, x.enable = true ∧ x.pending = true) ∧ (∀ x, x ≠ L → lineOf x t = lineOf x s) ∧
      t.trace = s.trace ++ lineNotice L s t ∧
      { t with lines := s.lines, trace := s.trace, result := s.result } = s ∧ t.result = .nothing

/-- `AGG.PRIO` (R196, R197): the winner is the qualifying source of the largest priority, the lowest index among equals; the
line is asserted exactly when there is one. -/
def Obligations.PriorityWinnerIsHighestThenLowest : Prop :=
  ∀ (L : Window) (ss : List Source) (s : State),
    ∃ t o, exec (.opAggPrio L ss) s = .next t ∧ t.result = .winner o ∧ lineOf L t = o.isSome ∧
      (∀ x, x ≠ L → lineOf x t = lineOf x s) ∧ t.trace = s.trace ++ lineNotice L s t ∧
      { t with lines := s.lines, trace := s.trace, result := s.result } = s ∧
      (o = none ↔ ∀ x ∈ ss, ¬(x.enable = true ∧ x.pending = true)) ∧
      (∀ i, o = some i ↔ ∃ x, ss[i]? = some x ∧ x.enable = true ∧ x.pending = true ∧
        ∀ j y, ss[j]? = some y → y.enable = true → y.pending = true →
          y.prio.toNat < x.prio.toNat ∨ (y.prio = x.prio ∧ i ≤ j))

/-- `AGG.SNAPSHOT` (R199): bit `i` is source `i` pending, whatever the enables and priorities; pure. -/
def Obligations.SnapshotBitIsPending : Prop :=
  ∀ (ss : List Source) (s : State), ss.length ≤ 32 →
    ∃ x : Word, ReadsAs (.opAggSnapshot ss) s x ∧
      ∀ i, x.getLsbD i = (match ss[i]? with | some y => y.pending | none => false)

/-- Recomputing gives a window's line the level of the table of R200, here written out window by window, and recomputing twice is
recomputing once: the same level, no second notification (R201). -/
def Obligations.UpdateInterruptsIsIdempotent : Prop :=
  ∀ (w : Window) (s : State),
    let u16Level := if s.u16.trig = 0 then 1 else if s.u16.trig = 1 then 4 else if s.u16.trig = 2 then 8 else 14
    updateInterrupts w (updateInterrupts w s) = updateInterrupts w s ∧
    lineOf w (updateInterrupts w s) = lineLevel w s ∧
    (lineLevel .gpio s = true ↔ s.cfg.gpioExt = true ∧
      ∃ i, i < s.cfg.nGpio ∧ s.gpio.ie.getLsbD i = true ∧ s.gpio.is.getLsbD i = true) ∧
    (lineLevel .uart s = true ↔
      (s.uart.txIe = true ∧ s.uart.port.tx.length ≤ s.uart.txTrig.toNat) ∨
      (s.uart.rxIe = true ∧ s.uart.rxTrig.toNat ≤ s.uart.port.rx.length) ∨
      (s.uart.ovrIe = true ∧ s.uart.port.overrun = true)) ∧
    (lineLevel .uart16550 s = true ↔
      (s.u16.elsi = true ∧ s.u16.port.overrun = true) ∨
      (s.u16.erbfi = true ∧ u16Level ≤ s.u16.port.rx.length) ∨
      (s.u16.etbei = true ∧ s.u16.port.tx = [])) ∧
    (lineLevel .spi s = true ↔
      (s.spi.txIe = true ∧ s.spi.port.tx.length ≤ s.spi.txTrig.toNat) ∨
      (s.spi.rxIe = true ∧ s.spi.rxTrig.toNat ≤ s.spi.port.rx.length) ∨
      (s.spi.ovrIe = true ∧ s.spi.port.overrun = true)) ∧
    (lineLevel .i2c s = true ↔
      (s.i2c.txIe = true ∧ s.i2c.port.tx.length ≤ s.i2c.txTrig.toNat) ∨
      (s.i2c.rxIe = true ∧ s.i2c.rxTrig.toNat ≤ s.i2c.port.rx.length) ∨
      (s.i2c.ovrIe = true ∧ s.i2c.port.overrun = true)) ∧
    (lineLevel .timer s = true ↔
      (s.timer.ovfIe = true ∧ s.timer.ovfPending = true) ∨
      ∃ c ∈ s.timer.cmp, c.en = true ∧ c.pending = true) ∧
    (lineLevel .dma s = true ↔ ∃ c ∈ s.dma.ch, c.ie = true ∧ c.pending = true) ∧
    (lineLevel .intc s = true ↔
      ∃ i, i < s.cfg.nIrqSrc ∧ s.intc.enable.getLsbD i = true ∧ s.intc.pending.getLsbD i = true)

/-- R86 (d) and the postcondition of R200 as an invariant of bus accesses and events: if every line has the level of the table
before a stimulus to a window, every line, that window's among them, has it when the stimulus completes. The premise is needed
for the stimuli that recompute nothing: a pure read after an `OP LINE.SET` leaves the line as that set it. -/
def Obligations.LinesAgreeAfterEveryStimulus : Prop :=
  ∀ (i : Instr) (w : Window) (s t : State), stimulusWindow i = some w → exec i s = .next t → LinesAgree s → LinesAgree t

/-- At most one notification per stimulus, of the addressed window's line, after every other output of the stimulus
(R191, R200, R491 (b) and (f)). -/
def Obligations.AtMostOneNotificationAndLast : Prop :=
  ∀ (i : Instr) (w : Window) (s t : State), stimulusWindow i = some w → exec i s = .next t →
    ∃ outs note, t.trace = s.trace ++ outs ++ note ∧ (∀ o ∈ outs, isNotify o = false) ∧
      (note = [] ∨ note = [.notify w (lineOf w t)] ∧ lineOf w t ≠ lineOf w s)

/-! ## The whole block -/

/-- Every step keeps the invariant: the counts and capacities (R86 (a)), the prescaler (R86 (b)), no bit above the implemented
pins and sources, no zero divisor (R154), no overrun flag under `DropSilent` (R301), the canonical form of `Mem` (log 4). -/
def Obligations.EveryStepKeepsInvariant : Prop :=
  ∀ s t : State, s.Inv → step s = .next t → t.Inv

/-- The state after reset, for every legal choice of the parameters of R8, meets both invariants (R85, R522). -/
def Obligations.ResetMeetsInvariants : Prop :=
  State.reset.Inv ∧ LinesAgree State.reset ∧ ∀ c : Config, c.Legal → (State.powerOn c).Inv ∧ LinesAgree (State.powerOn c)

/-- Nothing faults at run time: only the definition-time check does, and only a transfer that touches a window is refused;
in a block with no window in `Mem` every other stimulus completes (R97, R480, R484). -/
def Obligations.EveryStimulusCompletes : Prop :=
  ∀ (i : Instr) (s : State), (∀ bank, i ≠ .opRbDefine bank) →
    (∀ f, exec i s ≠ .fault f) ∧ (∀ r, exec i s = .refused r → r = .dmaTouchesWindow ∧ mayTransfer i = true) ∧
    (s.cfg.bases = [] → ∃ t, exec i s = .next t)

/-- Only a transfer writes `Mem` (R32): every other stimulus leaves it as it was. -/
def Obligations.OnlyTransfersWriteMemory : Prop :=
  ∀ (i : Instr) (s t : State), mayTransfer i = false → exec i s = .next t → t.mem = s.mem

/-- A stimulus addressed to one window changes no other window's state and no other line, and `Mem` only when it may make a
transfer (R19). -/
def Obligations.WindowsAreIndependent : Prop :=
  ∀ (i : Instr) (w : Window) (s t : State), stimulusWindow i = some w → exec i s = .next t →
    OnlyWindow w s t ∧ (mayTransfer i = false → MemSame s t)

/-- No stimulus changes the parameters (R33) or the queue of stimuli to come, and the trace only grows (R99 (d)). -/
def Obligations.ConfigurationStaysAndTraceGrows : Prop :=
  ∀ (i : Instr) (s t : State), exec i s = .next t →
    t.cfg = s.cfg ∧ t.input = s.input ∧ ∃ outs, t.trace = s.trace ++ outs

/-! ## Reset -/

/-- `EV <W>.RESET`, every window: the window's whole state to its reset values, its line de-asserted with a notification only if
it was asserted, `Mem` and every other window as they were (R520). -/
def Obligations.WindowResetRestoresWindow : Prop :=
  ∀ (w : Window) (s : State), LengthsOk s →
    ∃ t, exec (resetEvent w) s = .next t ∧ windowSame w (State.powerOn s.cfg) t ∧ lineOf w t = false ∧
      Framed w [] .nothing s t

/-- Power-on is the reset state: a `Reset` as first stimulus changes nothing (R522). -/
def Obligations.PowerOnIsTheResetState : Prop :=
  ∀ (c : Config) (w : Window), exec (resetEvent w) (State.powerOn c) = .next (State.powerOn c)

/-- What the registers read right after reset (R85): 0 but for the divisors, the RX trigger levels and the computed status
bits. -/
def Obligations.RegistersReadTheirResetValues : Prop :=
  ReadsAs .rdGpioData State.reset 0 ∧ ReadsAs .rdGpioDir State.reset 0 ∧ ReadsAs .rdUartStatus State.reset 0x5 ∧
  ReadsAs .rdUartControl State.reset 0x100 ∧ ReadsAs .rdUartBaud State.reset 1 ∧ ReadsAs .rdUart16550Iir State.reset 1 ∧
  ReadsAs .rdUart16550Lsr State.reset 0x60 ∧ ReadsAs .rdUart16550Ier State.reset 0 ∧
  ReadsAs .rdSpiControl State.reset 0x100 ∧ ReadsAs .rdSpiStatus State.reset 0x5 ∧
  ReadsAs .rdI2cControl State.reset 0x10000 ∧ ReadsAs .rdI2cClockDiv State.reset 1 ∧
  ReadsAs .rdTimerControl State.reset 0 ∧ ReadsAs .rdTimerPrescaler State.reset 1 ∧ ReadsAs .rdTimerStatus State.reset 0 ∧
  ReadsAs (.rdDmaChCtrl 3) State.reset 0 ∧ ReadsAs .rdIntcPending State.reset 0 ∧ ReadsAs (.rdIntcPriority 31) State.reset 0

/-- The resets of two windows commute: the order leaves no mark but in the trace (R523). -/
def Obligations.WindowResetsCommute : Prop :=
  ∀ (w x : Window) (s : State), w ≠ x →
    ∃ t u, execAll [resetEvent w, resetEvent x] s = .next t ∧ execAll [resetEvent x, resetEvent w] s = .next u ∧
      t = { u with trace := t.trace }

/-! ## GPIO -/

/-- The GPIO reads are pure; `DATA` shows the latch of an output and the level of an input, the others their vector, and only
implemented pins (R321, R323, R325, R327, R329, R331, R333). -/
def Obligations.GpioReadsAreBitwise : Prop :=
  ∀ s : State,
    (∃ x : Word, ReadsAs .rdGpioData s x ∧ ∀ k, x.getLsbD k =
      (decide (k < s.cfg.nGpio) && if s.gpio.dir.getLsbD k then s.gpio.out.getLsbD k else s.gpio.inp.getLsbD k)) ∧
    (∃ x : Word, ReadsAs .rdGpioDir s x ∧ ∀ k, x.getLsbD k = (decide (k < s.cfg.nGpio) && s.gpio.dir.getLsbD k)) ∧
    (s.cfg.gpioExt = true →
      (∃ x : Word, ReadsAs .rdGpioIe s x ∧ ∀ k, x.getLsbD k = (decide (k < s.cfg.nGpio) && s.gpio.ie.getLsbD k)) ∧
      (∃ x : Word, ReadsAs .rdGpioIs s x ∧ ∀ k, x.getLsbD k = (decide (k < s.cfg.nGpio) && s.gpio.is.getLsbD k)) ∧
      (∃ x : Word, ReadsAs .rdGpioIt s x ∧ ∀ k, x.getLsbD k = (decide (k < s.cfg.nGpio) && s.gpio.it.getLsbD k)) ∧
      (∃ x : Word, ReadsAs .rdGpioIp s x ∧ ∀ k, x.getLsbD k = (decide (k < s.cfg.nGpio) && s.gpio.ip.getLsbD k)) ∧
      (∃ x : Word, ReadsAs .rdGpioEdge s x ∧ ∀ k, x.getLsbD k = (decide (k < s.cfg.nGpio) && s.gpio.edge.getLsbD k)))

/-- The GPIO writes store the implemented bits of one vector, `IS` clears the latches written 1, the line follows, and nothing
else changes (R322, R324, R326, R328, R330, R332, R334). -/
def Obligations.GpioWritesStoreOneVector : Prop :=
  ∀ (v : Word) (s : State),
    let m := v &&& gpioMask s.cfg
    (∃ t, exec (.wrGpioData v) s = .next t ∧ t.gpio = { s.gpio with out := m } ∧ Framed .gpio [] .nothing s t) ∧
    (∃ t, exec (.wrGpioDir v) s = .next t ∧ t.gpio = { s.gpio with dir := m } ∧ Framed .gpio [] .nothing s t) ∧
    (s.cfg.gpioExt = true →
      (∃ t, exec (.wrGpioIe v) s = .next t ∧ t.gpio = { s.gpio with ie := m } ∧ Framed .gpio [] .nothing s t) ∧
      (∃ t, exec (.wrGpioIs v) s = .next t ∧ t.gpio = { s.gpio with is := s.gpio.is &&& ~~~m } ∧
        Framed .gpio [] .nothing s t) ∧
      (∃ t, exec (.wrGpioIt v) s = .next t ∧ t.gpio = { s.gpio with it := m } ∧ Framed .gpio [] .nothing s t) ∧
      (∃ t, exec (.wrGpioIp v) s = .next t ∧ t.gpio = { s.gpio with ip := m } ∧ Framed .gpio [] .nothing s t) ∧
      (∃ t, exec (.wrGpioEdge v) s = .next t ∧ t.gpio = { s.gpio with edge := m } ∧ Framed .gpio [] .nothing s t))

/-- `EV GPIO.PIN` (R341, R342): a bad index warns and changes nothing; else the level is recorded and the pin's latch is set
exactly as the detection table says; no other bit changes. -/
def Obligations.PinEventLatchesAsTheTableSays : Prop :=
  ∀ (pin : BitVec 16) (level : Bool) (s : State), s.cfg.nGpio ≤ 32 →
    (s.cfg.nGpio ≤ pin.toNat → exec (.evGpioPin pin level) s =
      .next { s with trace := s.trace ++ [.warn (.badPin pin.toNat)], result := .nothing }) ∧
    (pin.toNat < s.cfg.nGpio →
      ∃ t, exec (.evGpioPin pin level) s = .next t ∧ Framed .gpio [] .nothing s t ∧
        t.gpio = { s.gpio with inp := t.gpio.inp, is := t.gpio.is } ∧
        t.gpio.inp.getLsbD pin.toNat = level ∧
        (∀ k, k ≠ pin.toNat → t.gpio.inp.getLsbD k = s.gpio.inp.getLsbD k ∧ t.gpio.is.getLsbD k = s.gpio.is.getLsbD k) ∧
        (t.gpio.is.getLsbD pin.toNat = true ↔
          s.gpio.is.getLsbD pin.toNat = true ∨ (s.cfg.gpioExt = true ∧
            (if s.gpio.it.getLsbD pin.toNat = false then level = s.gpio.ip.getLsbD pin.toNat
              else if s.gpio.edge.getLsbD pin.toNat = true then s.gpio.inp.getLsbD pin.toNat ≠ level
              else s.gpio.inp.getLsbD pin.toNat ≠ level ∧ level = s.gpio.ip.getLsbD pin.toNat))))

/-! ## Serial windows -/

/-- Reading a data register: an empty RX queue answers 0 with a warning, another its oldest byte, which leaves it; whatever the
enables; the line follows (R295, R350, R371, R391, R400). `OP SER.DATAREAD` does the same and leaves the line (R295). -/
def Obligations.DataReadPopsOldestByte : Prop :=
  ∀ (w : Serial) (s : State),
    ((portOf w s).rx = [] →
      (∃ t, exec (dataRead w) s = .next t ∧ windowSame (serialWindow w) s t ∧
        Framed (serialWindow w) [.warn .rxEmpty] (.word 0) s t) ∧
      exec (.opSerDataRead w) s = .next { s with trace := s.trace ++ [.warn .rxEmpty], result := .word 0 }) ∧
    (∀ b bs, (portOf w s).rx = b :: bs →
      (∃ t, exec (dataRead w) s = .next t ∧ windowSame (serialWindow w) (setPort w { portOf w s with rx := bs } s) t ∧
        Framed (serialWindow w) [] (.word (b.setWidth 32)) s t) ∧
      exec (.opSerDataRead w) s =
        .next { setPort w { portOf w s with rx := bs } s with result := .word (b.setWidth 32) })

/-- Writing a data register: the low byte joins the TX queue, and a full queue loses it with a warning; a transmitter that is off
sends nothing, looping back or not; one that is on, not looping back, sends the whole queue, oldest byte first, and leaves it
empty; the line follows (R293, R294, R351, R372, R389, R392, R401). `OP SER.DATAWRITE` does the same and leaves the line, and
`OP SER.DRAIN` sends the queue. The transmitter that loops back is `SpiLoopbackReceivesWhatItSends`. -/
def Obligations.DataWriteTransmitsOrQueues : Prop :=
  ∀ (w : Serial) (v : Word) (s : State),
    let p := portOf w s
    let b := v.extractLsb' 0 8
    (txOn w s = false → p.tx.length ≠ s.cfg.fifoCap →
      (∃ t, exec (dataWrite w v) s = .next t ∧ windowSame (serialWindow w) (setPort w { p with tx := p.tx ++ [b] } s) t ∧
        Framed (serialWindow w) [] .nothing s t) ∧
      exec (.opSerDataWrite w b) s = .next { setPort w { p with tx := p.tx ++ [b] } s with result := .nothing }) ∧
    (txOn w s = false → p.tx.length = s.cfg.fifoCap →
      (∃ t, exec (dataWrite w v) s = .next t ∧ windowSame (serialWindow w) s t ∧
        Framed (serialWindow w) [.warn .txDrop] .nothing s t) ∧
      exec (.opSerDataWrite w b) s = .next { s with trace := s.trace ++ [.warn .txDrop], result := .nothing }) ∧
    (loopbackOn w s = false → txOn w s = true → p.tx.length ≠ s.cfg.fifoCap →
      (∃ t, exec (dataWrite w v) s = .next t ∧ windowSame (serialWindow w) (setPort w { p with tx := [] } s) t ∧
        Framed (serialWindow w) ((p.tx ++ [b]).map (Output.tx w)) .nothing s t) ∧
      exec (.opSerDataWrite w b) s = .next { setPort w { p with tx := [] } s with
        trace := s.trace ++ (p.tx ++ [b]).map (Output.tx w), result := .nothing }) ∧
    (loopbackOn w s = false → txOn w s = true → p.tx.length = s.cfg.fifoCap →
      (∃ t, exec (dataWrite w v) s = .next t ∧ windowSame (serialWindow w) (setPort w { p with tx := [] } s) t ∧
        Framed (serialWindow w) (.warn .txDrop :: p.tx.map (Output.tx w)) .nothing s t) ∧
      exec (.opSerDataWrite w b) s = .next { setPort w { p with tx := [] } s with
        trace := s.trace ++ .warn .txDrop :: p.tx.map (Output.tx w), result := .nothing }) ∧
    (loopbackOn w s = false → exec (.opSerDrain w) s = .next { setPort w { p with tx := [] } s with
      trace := s.trace ++ p.tx.map (Output.tx w), result := .nothing })

/-- SPI loopback (R293, R294, R297, R389, R390, R392, R487 (2)): every byte the drain sends is pushed on the RX queue; those that
find it full are lost, each with its warning right after its `TX`, and flagged under `RejectAndFlag`. So for `OP SER.DRAIN`, for
a control write that enables with loopback, and, the written byte having joined the TX queue or, full, been lost with its
warning, for a data write and `OP SER.DATAWRITE` of a looping SPI that is on. -/
def Obligations.SpiLoopbackReceivesWhatItSends : Prop :=
  ∀ (v : Word) (s : State), s.spi.port.rx.length ≤ s.cfg.fifoCap →
    let p := s.spi.port
    let b := v.extractLsb' 0 8
    let room := s.cfg.fifoCap - p.rx.length
    let after (q : List Byte) : Port := ⟨[], p.rx ++ q.take room, p.overrun ||
      (decide (room < q.length) && decide (s.cfg.ovrSpi = .rejectAndFlag))⟩
    let outs (q : List Byte) : List Output := (q.take room).map (Output.tx .spi) ++
      (q.drop room).flatMap (fun b => [.tx .spi b, .warn .overrun])
    let full := p.tx.length = s.cfg.fifoCap
    let queue := if full then p.tx else p.tx ++ [b]
    let drop : List Output := if full then [.warn .txDrop] else []
    (s.spi.loopback = true → exec (.opSerDrain .spi) s =
      .next { setPort .spi (after p.tx) s with trace := s.trace ++ outs p.tx, result := .nothing }) ∧
    (v.getLsbD 0 = true → v.getLsbD 1 = true →
      ∃ t, exec (.wrSpiControl v) s = .next t ∧ ReadsAs .rdSpiControl t (v &&& 0x001F1F7F#32) ∧ t.spi.port = after p.tx ∧
        Framed .spi (outs p.tx) .nothing s t) ∧
    (s.spi.loopback = true → s.spi.en = true →
      (∃ t, exec (.wrSpiData v) s = .next t ∧ Framed .spi (drop ++ outs queue) .nothing s t ∧
        t.spi = { s.spi with port := after queue }) ∧
      exec (.opSerDataWrite .spi b) s = .next { setPort .spi (after queue) s with
        trace := s.trace ++ drop ++ outs queue, result := .nothing })

/-- A received character (R297, R358, R385, R394, R405): a receiver that is off discards it silently; one that is on queues it,
or, full, loses it with a warning and flags it under `RejectAndFlag`. `OP SER.RXCHAR` does the same and leaves the line. -/
def Obligations.ReceivedByteIsQueuedOrLost : Prop :=
  ∀ (w : Serial) (b : Byte) (s : State),
    let p := portOf w s
    let flagged : Port := { p with overrun := p.overrun || decide (policyOf w s.cfg = .rejectAndFlag) }
    (rxOn w s = false →
      (∃ t, exec (rxChar w b) s = .next t ∧ windowSame (serialWindow w) s t ∧ Framed (serialWindow w) [] .nothing s t) ∧
      exec (.opSerRxChar w b) s = .next { s with result := .nothing }) ∧
    (rxOn w s = true → p.rx.length < s.cfg.fifoCap →
      (∃ t, exec (rxChar w b) s = .next t ∧ windowSame (serialWindow w) (setPort w { p with rx := p.rx ++ [b] } s) t ∧
        Framed (serialWindow w) [] .nothing s t) ∧
      exec (.opSerRxChar w b) s = .next { setPort w { p with rx := p.rx ++ [b] } s with result := .nothing }) ∧
    (rxOn w s = true → p.rx.length = s.cfg.fifoCap →
      (∃ t, exec (rxChar w b) s = .next t ∧ windowSame (serialWindow w) (setPort w flagged s) t ∧
        Framed (serialWindow w) [.warn .overrun] .nothing s t) ∧
      exec (.opSerRxChar w b) s =
        .next { setPort w flagged s with trace := s.trace ++ [.warn .overrun], result := .nothing })

/-- The status reads are pure queries of the fill levels and the overrun flag, but `LSR`, which returns the flag and clears it;
a status write clears the flag by writing 1 and changes nothing else, a write of `LSR` nothing (R352, R353, R383, R384, R393,
R395, R402, R403). -/
def Obligations.StatusReadsAndOverrunClears : Prop :=
  ∀ (v : Word) (s : State),
    let cap := s.cfg.fifoCap
    let shows (p : Port) (x : Word) : Prop :=
      x.getLsbD 0 = decide (p.tx.length = 0) ∧ x.getLsbD 1 = decide (p.tx.length = cap) ∧
      x.getLsbD 2 = decide (p.rx.length = 0) ∧ x.getLsbD 3 = decide (p.rx.length = cap) ∧ x.getLsbD 4 = p.overrun ∧
      x >>> 5 = 0
    (∃ x, ReadsAs .rdUartStatus s x ∧ shows s.uart.port x) ∧ (∃ x, ReadsAs .rdSpiStatus s x ∧ shows s.spi.port x) ∧
    (∃ x, ReadsAs .rdI2cStatus s x ∧ shows s.i2c.port x) ∧
    (∃ t, exec (.wrUartStatus v) s = .next t ∧ Framed .uart [] .nothing s t ∧
      t.uart = { s.uart with port := { s.uart.port with overrun := s.uart.port.overrun && !v.getLsbD 4 } }) ∧
    (∃ t, exec (.wrSpiStatus v) s = .next t ∧ Framed .spi [] .nothing s t ∧
      t.spi = { s.spi with port := { s.spi.port with overrun := s.spi.port.overrun && !v.getLsbD 4 } }) ∧
    (∃ t, exec (.wrI2cStatus v) s = .next t ∧ Framed .i2c [] .nothing s t ∧
      t.i2c = { s.i2c with port := { s.i2c.port with overrun := s.i2c.port.overrun && !v.getLsbD 4 } }) ∧
    (∃ x t, exec .rdUart16550Lsr s = .next t ∧ Framed .uart16550 [] (.word x) s t ∧
      t.u16 = { s.u16 with port := { s.u16.port with overrun := false } } ∧
      x.getLsbD 0 = decide (s.u16.port.rx.length ≠ 0) ∧ x.getLsbD 1 = s.u16.port.overrun ∧
      x.getLsbD 5 = decide (s.u16.port.tx.length = 0) ∧ x.getLsbD 6 = decide (s.u16.port.tx.length = 0) ∧
      x &&& ~~~0x63#32 = 0) ∧
    (∃ t, exec (.wrUart16550Lsr v) s = .next t ∧ Framed .uart16550 [] .nothing s t ∧ t.u16 = s.u16)

/-- A control register keeps exactly its implemented bits and is read back from them; leaving the transmitter on sends the
queue, oldest byte first, leaving it off discards and sends nothing; the line follows (R303, R354, R355, R388, R389, R398, R399).
An SPI that is left on and looping with bytes waiting is `SpiLoopbackReceivesWhatItSends`. -/
def Obligations.ControlRegistersStoreAndDrain : Prop :=
  ∀ (v : Word) (s : State),
    (∃ t, exec (.wrUartControl v) s = .next t ∧ ReadsAs .rdUartControl t (v &&& 0x001F1F1F#32) ∧
      t.uart.div = s.uart.div ∧
      t.uart.port = (if v.getLsbD 0 then { s.uart.port with tx := [] } else s.uart.port) ∧
      Framed .uart (if v.getLsbD 0 then s.uart.port.tx.map (Output.tx .uart) else []) .nothing s t) ∧
    (v.getLsbD 0 = false ∨ v.getLsbD 1 = false ∨ s.spi.port.tx = [] →
      ∃ t, exec (.wrSpiControl v) s = .next t ∧ ReadsAs .rdSpiControl t (v &&& 0x001F1F7F#32) ∧
        t.spi.port = (if v.getLsbD 0 then { s.spi.port with tx := [] } else s.spi.port) ∧
        Framed .spi (if v.getLsbD 0 then s.spi.port.tx.map (Output.tx .spi) else []) .nothing s t) ∧
    (∃ t, exec (.wrI2cControl v) s = .next t ∧ ReadsAs .rdI2cControl t (v &&& 0x1F1F7F7F#32) ∧
      t.i2c.div = s.i2c.div ∧
      t.i2c.port = (if v.getLsbD 0 then { s.i2c.port with tx := [] } else s.i2c.port) ∧
      Framed .i2c (if v.getLsbD 0 then s.i2c.port.tx.map (Output.tx .i2c) else []) .nothing s t)

/-- Every control read is pure and shows each field at its place (R47, R59, R63, R354, R388, R398). -/
def Obligations.ControlReadsShowEveryField : Prop :=
  ∀ s : State,
    (∃ x : Word, ReadsAs .rdUartControl s x ∧ x &&& ~~~0x001F1F1F#32 = 0 ∧ x.getLsbD 0 = s.uart.txEn ∧
      x.getLsbD 1 = s.uart.rxEn ∧ x.getLsbD 2 = s.uart.txIe ∧ x.getLsbD 3 = s.uart.rxIe ∧ x.getLsbD 4 = s.uart.ovrIe ∧
      x.extractLsb' 8 5 = s.uart.rxTrig ∧ x.extractLsb' 16 5 = s.uart.txTrig) ∧
    (∃ x : Word, ReadsAs .rdSpiControl s x ∧ x &&& ~~~0x001F1F7F#32 = 0 ∧ x.getLsbD 0 = s.spi.en ∧
      x.getLsbD 1 = s.spi.loopback ∧ x.extractLsb' 2 2 = s.spi.mode ∧ x.getLsbD 4 = s.spi.txIe ∧
      x.getLsbD 5 = s.spi.rxIe ∧ x.getLsbD 6 = s.spi.ovrIe ∧ x.extractLsb' 8 5 = s.spi.rxTrig ∧
      x.extractLsb' 16 5 = s.spi.txTrig) ∧
    (∃ x : Word, ReadsAs .rdI2cControl s x ∧ x &&& ~~~0x1F1F7F7F#32 = 0 ∧ x.getLsbD 0 = s.i2c.en ∧
      x.getLsbD 1 = s.i2c.start ∧ x.getLsbD 2 = s.i2c.stop ∧ x.getLsbD 3 = s.i2c.ack ∧ x.getLsbD 4 = s.i2c.txIe ∧
      x.getLsbD 5 = s.i2c.rxIe ∧ x.getLsbD 6 = s.i2c.ovrIe ∧ x.extractLsb' 8 7 = s.i2c.slaveAddr ∧
      x.extractLsb' 16 5 = s.i2c.rxTrig ∧ x.extractLsb' 24 5 = s.i2c.txTrig)

/-- The divisors of UART and I2C: the low half-word is stored, a zero one is refused with a warning, the read is pure (R356,
R357, R404, R406). -/
def Obligations.ZeroDivisorIsRefused : Prop :=
  ∀ (v : Word) (s : State),
    let d := v.extractLsb' 0 16
    ReadsAs .rdUartBaud s (s.uart.div.setWidth 32) ∧ ReadsAs .rdI2cClockDiv s (s.i2c.div.setWidth 32) ∧
    (∃ t, exec (.wrUartBaud v) s = .next t ∧ Framed .uart (if d = 0 then [.warn .zeroDiv] else []) .nothing s t ∧
      t.uart = { s.uart with div := if d = 0 then s.uart.div else d }) ∧
    (∃ t, exec (.wrI2cClockDiv v) s = .next t ∧ Framed .i2c (if d = 0 then [.warn .zeroDiv] else []) .nothing s t ∧
      t.i2c = { s.i2c with div := if d = 0 then s.i2c.div else d })

/-- The UART16550 registers beside the queues: the writes of `DLL`, `DLH`, `IER`, `LCR`, `FCR` and `SETMAP`, the pure reads of
`DLL`, `DLH`, `IER`, `LCR`; no write of a register changes `map_sel`, no FIFO clear the overrun flag (R373 to R377, R379 to
R382, R386). -/
def Obligations.Uart16550RegistersHoldTheirBits : Prop :=
  ∀ (v : Word) (sel : Bool) (s : State),
    ReadsAs .rdUart16550Dll s (s.u16.dll.setWidth 32) ∧ ReadsAs .rdUart16550Dlh s (s.u16.dlh.setWidth 32) ∧
    ReadsAs .rdUart16550Lcr s (s.u16.lcr.setWidth 32) ∧
    (∃ x : Word, ReadsAs .rdUart16550Ier s x ∧ x.getLsbD 0 = s.u16.erbfi ∧ x.getLsbD 1 = s.u16.etbei ∧
      x.getLsbD 2 = s.u16.elsi ∧ x >>> 3 = 0) ∧
    (∃ t, exec (.wrUart16550Dll v) s = .next t ∧ Framed .uart16550 [] .nothing s t ∧
      t.u16 = { s.u16 with dll := v.extractLsb' 0 8 }) ∧
    (∃ t, exec (.wrUart16550Dlh v) s = .next t ∧ Framed .uart16550 [] .nothing s t ∧
      t.u16 = { s.u16 with dlh := v.extractLsb' 0 8 }) ∧
    (∃ t, exec (.wrUart16550Ier v) s = .next t ∧ Framed .uart16550 [] .nothing s t ∧
      t.u16 = { s.u16 with erbfi := v.getLsbD 0, etbei := v.getLsbD 1, elsi := v.getLsbD 2 }) ∧
    (∃ t, exec (.wrUart16550Lcr v) s = .next t ∧ Framed .uart16550 [] .nothing s t ∧
      t.u16 = { s.u16 with lcr := v.extractLsb' 0 8 }) ∧
    (∃ t, exec (.wrUart16550Fcr v) s = .next t ∧ Framed .uart16550 [] .nothing s t ∧
      t.u16 = { s.u16 with
        fifoEn := v.getLsbD 0
        trig := v.extractLsb' 6 2
        port := { s.u16.port with
          rx := if v.getLsbD 1 then [] else s.u16.port.rx
          tx := if v.getLsbD 2 then [] else s.u16.port.tx } }) ∧
    (∃ t, exec (.evUart16550SetMap sel) s = .next t ∧ Framed .uart16550 [] .nothing s t ∧
      t.u16 = { s.u16 with mapSel := sel })

/-- `IIR` identifies the highest of its three sources and bit 0 is 0 exactly when `UART16550.irq` is asserted; the received-data
level is 1, 4, 8 or 14 bytes for `fcr_trig` 0, 1, 2 or 3; the read is pure (R54, R55, R378). -/
def Obligations.IirFollowsTheLine : Prop :=
  ∀ s : State, s.lines.uart16550 = lineLevel .uart16550 s →
    let level := if s.u16.trig = 0 then 1 else if s.u16.trig = 1 then 4 else if s.u16.trig = 2 then 8 else 14
    ∃ x : Word, ReadsAs .rdUart16550Iir s x ∧ (x.getLsbD 0 = false ↔ s.lines.uart16550 = true) ∧
      x &&& 0xC0#32 = (if s.u16.fifoEn then 0xC0#32 else 0) ∧
      x &&& 0x3F#32 =
        (if s.u16.elsi = true ∧ s.u16.port.overrun = true then 6
          else if s.u16.erbfi = true ∧ level ≤ s.u16.port.rx.length then 4
          else if s.u16.etbei = true ∧ s.u16.port.tx = [] then 2 else 1) ∧
      x >>> 8 = 0

/-! ## TIMER -/

/-- The TIMER reads are pure (R420, R422, R424, R427, R429, R431, R433). -/
def Obligations.TimerReadsArePure : Prop :=
  ∀ (k : BitVec 4) (c : Cmp) (s : State),
    ReadsAs .rdTimerValue s s.timer.value ∧ ReadsAs .rdTimerReload s s.timer.limit ∧
    ReadsAs .rdTimerPrescaler s s.timer.prescaler ∧ ReadsAs .rdTimerStatus s (if s.timer.ovfPending then 1 else 0) ∧
    (∃ x : Word, ReadsAs .rdTimerControl s x ∧ x.getLsbD 0 = s.timer.running ∧ x.getLsbD 1 = s.timer.oneshot ∧
      x.getLsbD 2 = s.timer.ovfIe ∧ x >>> 3 = 0) ∧
    (cmpAt s k.toNat = some c →
      ReadsAs (.rdTimerCmpTarget k) s c.target ∧
      ∃ x : Word, ReadsAs (.rdTimerCmpCtrl k) s x ∧ x.getLsbD 0 = c.en ∧ x.getLsbD 1 = c.pending ∧ x >>> 2 = 0)

/-- The TIMER writes (R421, R423, R425, R428, R430, R432, R434): each stores what its rule says, starts or stops the channel
(`CONTROL`), clears a latch (`STATUS`, `CMP[k].CTRL`), re-arms (`TARGET`), refuses a zero prescaler, and changes nothing else. -/
def Obligations.TimerWritesStoreStartAndClear : Prop :=
  ∀ (v : Word) (k : BitVec 4) (c : Cmp) (s : State),
    let T := s.timer
    (∃ t, exec (.wrTimerControl v) s = .next t ∧ Framed .timer [] .nothing s t ∧
      t.timer = { T with
        running := v.getLsbD 0
        prescCnt := if v.getLsbD 0 = true ∧ T.running = false then 0 else T.prescCnt
        cmp := if v.getLsbD 0 = true ∧ T.running = false ∧ s.cfg.cmpArmOnce = true
          then T.cmp.map (fun c => { c with armed := true }) else T.cmp
        oneshot := v.getLsbD 1
        ovfIe := v.getLsbD 2 }) ∧
    (∃ t, exec (.wrTimerValue v) s = .next t ∧ Framed .timer [] .nothing s t ∧ t.timer = { T with value := v }) ∧
    (∃ t, exec (.wrTimerReload v) s = .next t ∧ Framed .timer [] .nothing s t ∧ t.timer = { T with limit := v }) ∧
    (∃ t, exec (.wrTimerPrescaler v) s = .next t ∧ Framed .timer (if v = 0 then [.warn .zeroDiv] else []) .nothing s t ∧
      t.timer = if v = 0 then T else { T with prescaler := v, prescCnt := 0 }) ∧
    (∃ t, exec (.wrTimerStatus v) s = .next t ∧ Framed .timer [] .nothing s t ∧
      t.timer = { T with ovfPending := T.ovfPending && !v.getLsbD 0 }) ∧
    (cmpAt s k.toNat = some c →
      (∃ t, exec (.wrTimerCmpTarget k v) s = .next t ∧ Framed .timer [] .nothing s t ∧
        t.timer = { T with cmp := T.cmp.set k.toNat { c with target := v, armed := true } }) ∧
      (∃ t, exec (.wrTimerCmpCtrl k v) s = .next t ∧ Framed .timer [] .nothing s t ∧
        t.timer = { T with cmp := T.cmp.set k.toNat { c with en := v.getLsbD 0, pending := c.pending && !v.getLsbD 1 } }))

/-- A tick (R226 to R230, R440): an idle channel ignores it; a running one counts, advances when the prescale count is due, on
reaching the limit raises the overflow and wraps or clamps and stops, and then evaluates every compare channel against the
value that results; no value above the limit is left by an advance (R86 (e)). `OP TCH.TICK` does the same and leaves the line. -/
def Obligations.TickCountsOverflowsAndCompares : Prop :=
  ∀ s : State,
    let T := s.timer
    let arm := s.cfg.cmpArmOnce
    let seen (v : Word) (c : Cmp) : Cmp :=
      if v = c.target ∧ (arm = false ∨ c.armed = true) then { c with pending := true, armed := false } else c
    let rearmed : List Cmp := if arm then T.cmp.map (fun c => { c with armed := true }) else T.cmp
    let T' : Timer :=
      if T.running = false then T
      else if T.prescCnt + 1 < T.prescaler.toNat then { T with prescCnt := T.prescCnt + 1, cmp := T.cmp.map (seen T.value) }
      else if T.value.toNat + 1 < T.limit.toNat then
        { T with prescCnt := 0, value := T.value + 1, cmp := T.cmp.map (seen (T.value + 1)) }
      else if T.oneshot = false then
        { T with prescCnt := 0, ovfPending := true, value := 0, cmp := rearmed.map (seen 0) }
      else
        { T with prescCnt := 0, ovfPending := true, value := T.limit, running := false, cmp := rearmed.map (seen T.limit) }
    (∃ t, exec .evTimerTick s = .next t ∧ Framed .timer [] .nothing s t ∧ t.timer = T') ∧
    exec .opTchTick s = .next { s with timer := T', result := .nothing } ∧
    (T.running = true → T.prescaler.toNat ≤ T.prescCnt + 1 → T'.value.toNat ≤ T'.limit.toNat)

/-- `OP TCH.START`, `TCH.STOP` and `CMP.EVAL` (R222, R223, R230). That `CMP.EVAL` of a channel the block does not have is ignored
with a warning is the model's choice (log 9). -/
def Obligations.StartStopAndCompareOperations : Prop :=
  ∀ (k : BitVec 16) (c : Cmp) (s : State),
    (s.timer.running = true → exec .opTchStart s = .next { s with result := .nothing }) ∧
    (s.timer.running = false → exec .opTchStart s = .next { s with
      timer := { s.timer with
        running := true
        prescCnt := 0
        cmp := if s.cfg.cmpArmOnce then s.timer.cmp.map (fun c => { c with armed := true }) else s.timer.cmp }
      result := .nothing }) ∧
    exec .opTchStop s = .next { s with timer := { s.timer with running := false }, result := .nothing } ∧
    (cmpAt s k.toNat = some c →
      (s.timer.value = c.target ∧ (s.cfg.cmpArmOnce = false ∨ c.armed = true) →
        exec (.opCmpEval k) s =
          .next { setCmp s k.toNat { c with pending := true, armed := false } with result := .nothing }) ∧
      (¬(s.timer.value = c.target ∧ (s.cfg.cmpArmOnce = false ∨ c.armed = true)) →
        exec (.opCmpEval k) s = .next { s with result := .nothing })) ∧
    (s.cfg.nCmp ≤ k.toNat → exec (.opCmpEval k) s =
      .next { s with trace := s.trace ++ [.warn (.badChannel k.toNat)], result := .nothing })

/-- The period of a Periodic channel is `limit * prescaler` ticks: after any number `n` of ticks from a fresh start the value is
`(n / prescaler) mod limit`, and the overflow flag is set from the tick `limit * prescaler` on, not one earlier (R226, R227). -/
def Obligations.PeriodicTimerPeriodIsLimitTimesPrescaler : Prop :=
  ∀ (n : Nat) (s : State), s.timer.running = true → s.timer.oneshot = false → s.timer.ovfPending = false →
    s.timer.value = 0 → s.timer.prescCnt = 0 → 1 ≤ s.timer.limit.toNat → 1 ≤ s.timer.prescaler.toNat →
    ∃ t, execAll (ticks n) s = .next t ∧ t.timer.running = true ∧
      t.timer.value.toNat = n / s.timer.prescaler.toNat % s.timer.limit.toNat ∧
      t.timer.prescCnt = n % s.timer.prescaler.toNat ∧
      (t.timer.ovfPending = true ↔ s.timer.limit.toNat * s.timer.prescaler.toNat ≤ n)

/-! ## DMA -/

/-- The DMA registers: pure reads, writes that store one field (`CTRL` without `START`: `EN`, `IE`, and `IF` cleared by writing
1), and `DCH.CONFIGURE` and `DCH.SETENABLED`; nothing starts (R263, R264, R443 to R452). -/
def Obligations.DmaRegistersStoreAndRead : Prop :=
  ∀ (n : BitVec 3) (m : BitVec 16) (v a b : Word) (e : Bool) (c : DmaChannel) (s : State),
    let put (c' : DmaChannel) : Dma := { s.dma with ch := s.dma.ch.set n.toNat c' }
    ReadsAs .rdDmaControl s (if s.dma.en then 1 else 0) ∧
    (∃ t, exec (.wrDmaControl v) s = .next t ∧ Framed .dma [] .nothing s t ∧ t.dma = { s.dma with en := v.getLsbD 0 }) ∧
    (chanAt s n.toNat = some c →
      ReadsAs (.rdDmaChSrc n) s c.src ∧ ReadsAs (.rdDmaChDst n) s c.dst ∧ ReadsAs (.rdDmaChCount n) s c.count ∧
      (∃ x : Word, ReadsAs (.rdDmaChCtrl n) s x ∧ x.getLsbD 0 = c.enabled ∧ x.getLsbD 1 = false ∧ x.getLsbD 2 = c.ie ∧
        x.getLsbD 3 = c.pending ∧ x >>> 4 = 0) ∧
      (∃ t, exec (.wrDmaChSrc n v) s = .next t ∧ Framed .dma [] .nothing s t ∧ t.dma = put { c with src := v }) ∧
      (∃ t, exec (.wrDmaChDst n v) s = .next t ∧ Framed .dma [] .nothing s t ∧ t.dma = put { c with dst := v }) ∧
      (∃ t, exec (.wrDmaChCount n v) s = .next t ∧ Framed .dma [] .nothing s t ∧ t.dma = put { c with count := v }) ∧
      (v.getLsbD 1 = false →
        ∃ t, exec (.wrDmaChCtrl n v) s = .next t ∧ Framed .dma [] .nothing s t ∧
          t.dma = put { c with enabled := v.getLsbD 0, ie := v.getLsbD 2, pending := c.pending && !v.getLsbD 3 })) ∧
    (chanAt s m.toNat = some c →
      exec (.opDchConfigure m v a b) s =
        .next { setChan s m.toNat { c with src := v, dst := a, count := b } with result := .nothing } ∧
      exec (.opDchSetEnabled m e) s = .next { setChan s m.toNat { c with enabled := e } with result := .nothing })

/-- `MemCopy` copies as a move: every destination byte is the former source byte, every other byte is untouched, addresses wrap
at 2^32 (R96). -/
def Obligations.MemCopyIsASnapshotCopy : Prop :=
  ∀ (m : Memory) (src dst n : Word), Memory.wf m = true →
    Memory.wf (memCopy m src dst n) = true ∧
    (∀ i, i < n.toNat →
      memRead (memCopy m src dst n) (dst + BitVec.ofNat 32 i).toNat = memRead m (src + BitVec.ofNat 32 i).toNat) ∧
    (∀ a, (∀ i, i < n.toNat → a ≠ (dst + BitVec.ofNat 32 i).toNat) → memRead (memCopy m src dst n) a = memRead m a)

/-- A transfer (R262, R266, R268, R451, R455): an enabled channel with a count, asked by `EV DMA.REQ`, `OP DMA.REQUEST`,
`OP DCH.TRIGGER` or by `START` of a `CTRL` write (with the fields of that same write), copies, sets its flag when `ie` is set,
settles the line and keeps its registers. -/
def Obligations.TransferCopiesAndFlags : Prop :=
  ∀ (n : BitVec 3) (m : BitVec 16) (v q : Word) (c : DmaChannel) (s : State), Memory.wf s.mem = true →
    (chanAt s m.toNat = some c → c.enabled = true → c.count ≠ 0 → touchesWindow s.cfg c.src c.dst c.count = false →
      (∃ t, exec (.opDchTrigger m) s = .next t ∧ Transferred m.toNat c s t) ∧
      (s.dma.en = true → ∃ t, exec (.evDmaReq m) s = .next t ∧ Transferred m.toNat c s t)) ∧
    (chanAt s q.toNat = some c → c.enabled = true → c.count ≠ 0 → touchesWindow s.cfg c.src c.dst c.count = false →
      s.dma.en = true → ∃ t, exec (.opDmaRequest q) s = .next t ∧ Transferred q.toNat c s t) ∧
    (chanAt s n.toNat = some c → v.getLsbD 0 = true → v.getLsbD 1 = true → c.count ≠ 0 → s.dma.en = true →
      touchesWindow s.cfg c.src c.dst c.count = false →
      ∃ t, exec (.wrDmaChCtrl n v) s = .next t ∧
        Transferred n.toNat
          { c with enabled := true, ie := v.getLsbD 2, pending := c.pending && !v.getLsbD 3 } s t)

/-- Requests that transfer nothing (R97, R265, R268, R451, R485): a bad index warns, even with the controller off; a disabled
controller, a disabled channel or a zero count drops the request silently, also that of `START` in a `CTRL` write, which then
stores its other fields and no more; one that would touch a register window is refused (R97). That the operations `DCH.*` of a
channel the block does not have are ignored with a warning is the model's choice (log 9). -/
def Obligations.RequestsDroppedWithoutTransfer : Prop :=
  ∀ (m : BitVec 16) (q : Word) (c : DmaChannel) (s : State),
    (s.cfg.nDmaCh ≤ q.toNat → exec (.opDmaRequest q) s =
      .next { s with trace := s.trace ++ [.warn (.badChannel q.toNat)], result := .nothing }) ∧
    (s.cfg.nDmaCh ≤ m.toNat →
      ∃ t, exec (.evDmaReq m) s = .next t ∧ t.dma = s.dma ∧ Framed .dma [.warn (.badChannel m.toNat)] .nothing s t) ∧
    (chanAt s m.toNat = some c → c.enabled = false ∨ c.count = 0 →
      exec (.opDchTrigger m) s = .next { s with result := .nothing }) ∧
    (chanAt s m.toNat = some c → s.dma.en = false ∨ c.enabled = false ∨ c.count = 0 →
      ∃ t, exec (.evDmaReq m) s = .next t ∧ t.dma = s.dma ∧ Framed .dma [] .nothing s t) ∧
    (chanAt s q.toNat = some c → s.dma.en = false ∨ c.enabled = false ∨ c.count = 0 →
      exec (.opDmaRequest q) s = .next { s with result := .nothing }) ∧
    (chanAt s m.toNat = some c → c.enabled = true → c.count ≠ 0 → touchesWindow s.cfg c.src c.dst c.count = true →
      exec (.opDchTrigger m) s = .refused .dmaTouchesWindow ∧
      (s.dma.en = true → exec (.evDmaReq m) s = .refused .dmaTouchesWindow)) ∧
    (chanAt s q.toNat = some c → c.enabled = true → c.count ≠ 0 → touchesWindow s.cfg c.src c.dst c.count = true →
      s.dma.en = true → exec (.opDmaRequest q) s = .refused .dmaTouchesWindow) ∧
    (∀ (n : BitVec 3) (v : Word), chanAt s n.toNat = some c → v.getLsbD 0 = true → v.getLsbD 1 = true → c.count ≠ 0 →
      touchesWindow s.cfg c.src c.dst c.count = true → s.dma.en = true →
      exec (.wrDmaChCtrl n v) s = .refused .dmaTouchesWindow) ∧
    (∀ (n : BitVec 3) (v : Word), chanAt s n.toNat = some c → v.getLsbD 1 = true →
      v.getLsbD 0 = false ∨ c.count = 0 ∨ s.dma.en = false →
      ∃ t, exec (.wrDmaChCtrl n v) s = .next t ∧ Framed .dma [] .nothing s t ∧
        t.dma = { s.dma with
          ch := s.dma.ch.set n.toNat
            { c with enabled := v.getLsbD 0, ie := v.getLsbD 2, pending := c.pending && !v.getLsbD 3 } }) ∧
    (s.cfg.nDmaCh ≤ m.toNat → ∀ (a b e : Word) (f : Bool),
      let t := { s with trace := s.trace ++ [.warn (.badChannel m.toNat)], result := .nothing }
      exec (.opDchTrigger m) s = .next t ∧ exec (.opDchConfigure m a b e) s = .next t ∧
        exec (.opDchSetEnabled m f) s = .next t)

/-! ## INTC -/

/-- The INTC registers: pure reads (`PENDING` is the snapshot), writes that replace the enables or one priority, and `PENDING`,
which ignores writes (R460 to R465). -/
def Obligations.IntcRegistersStoreAndRead : Prop :=
  ∀ (n : BitVec 5) (p : Byte) (v : Word) (s : State), s.cfg.nIrqSrc ≤ 32 →
    ReadsAs .rdIntcEnable s (s.intc.enable &&& irqMask s.cfg) ∧
    (∃ x : Word, ReadsAs .rdIntcPending s x ∧
      ∀ k, x.getLsbD k = (decide (k < s.cfg.nIrqSrc) && s.intc.pending.getLsbD k)) ∧
    (∃ t, exec (.wrIntcEnable v) s = .next t ∧ Framed .intc [] .nothing s t ∧
      t.intc = { s.intc with enable := v &&& irqMask s.cfg }) ∧
    (∃ t, exec (.wrIntcPending v) s = .next t ∧ Framed .intc [] .nothing s t ∧ t.intc = s.intc) ∧
    (prioAt s n.toNat = some p →
      ReadsAs (.rdIntcPriority n) s (p.setWidth 32) ∧
      ∃ t, exec (.wrIntcPriority n v) s = .next t ∧ Framed .intc [] .nothing s t ∧
        t.intc = { s.intc with prio := s.intc.prio.set n.toNat (v.extractLsb' 0 8) })

/-- `EV INTC.SRC` (R466): a bad index warns and changes nothing; else the pending bit mirrors the level, no other bit changes, the
line is asserted exactly when some source is enabled and pending, which is when there is a winner, and the winner is the enabled
and pending source of the largest priority, of the lowest index among equals (R197, R200, R468). -/
def Obligations.SourceEventMirrorsLevel : Prop :=
  ∀ (src : BitVec 16) (level : Bool) (s : State), s.cfg.nIrqSrc ≤ 32 →
    (s.cfg.nIrqSrc ≤ src.toNat → exec (.evIntcSrc src level) s =
      .next { s with trace := s.trace ++ [.warn (.badSource src.toNat)], result := .nothing }) ∧
    (src.toNat < s.cfg.nIrqSrc →
      ∃ t, exec (.evIntcSrc src level) s = .next t ∧ Framed .intc [] .nothing s t ∧
        t.intc = { s.intc with pending := t.intc.pending } ∧
        (∀ k, t.intc.pending.getLsbD k = if k = src.toNat then level else s.intc.pending.getLsbD k) ∧
        lineOf .intc t = (intcWinner t).isSome ∧
        (lineOf .intc t = true ↔
          ∃ i, i < t.cfg.nIrqSrc ∧ t.intc.enable.getLsbD i = true ∧ t.intc.pending.getLsbD i = true) ∧
        (∀ i, intcWinner t = some i ↔
          i < t.cfg.nIrqSrc ∧ t.intc.enable.getLsbD i = true ∧ t.intc.pending.getLsbD i = true ∧
          ∀ j, j < t.cfg.nIrqSrc → t.intc.enable.getLsbD j = true → t.intc.pending.getLsbD j = true →
            (t.intc.prio.getD j 0).toNat < (t.intc.prio.getD i 0).toNat ∨
              (t.intc.prio.getD j 0 = t.intc.prio.getD i 0 ∧ i ≤ j)))

/-! ## Hazards -/

/-- A read-modify-write that means to change nothing clears the write-one-to-clear flags that were set (R122, R531): all GPIO
latches, the overrun flags of UART, SPI and I2C, the timer's overflow, a compare channel's and a DMA channel's flag, whose
enables it keeps. -/
def Obligations.ReadModifyWriteClearsFlags : Prop :=
  ∀ (k : BitVec 4) (n : BitVec 3) (c : Cmp) (d : DmaChannel) (s : State), s.Inv →
    (s.cfg.gpioExt = true → ∃ t, rmw .gpio 0x0C 0 0 s = .next t ∧ t.gpio = { s.gpio with is := 0 }) ∧
    (∃ t, rmw .uart 0x04 0 0 s = .next t ∧
      t.uart = { s.uart with port := { s.uart.port with overrun := false } }) ∧
    (∃ t, rmw .spi 0x08 0 0 s = .next t ∧ t.spi = { s.spi with port := { s.spi.port with overrun := false } }) ∧
    (∃ t, rmw .i2c 0x08 0 0 s = .next t ∧ t.i2c = { s.i2c with port := { s.i2c.port with overrun := false } }) ∧
    (∃ t, rmw .timer 0x10 0 0 s = .next t ∧ t.timer = { s.timer with ovfPending := false }) ∧
    (cmpAt s k.toNat = some c → ∃ t, rmw .timer (cmpOffset k 4) 0 0 s = .next t ∧
      cmpAt t k.toNat = some { c with pending := false }) ∧
    (chanAt s n.toNat = some d → ∃ t, rmw .dma (chOffset n 0xC) 0 0 s = .next t ∧
      chanAt t n.toNat = some { d with pending := false })
end

