-- ==== Sys2Proof/Laws/Memory.lean ====
section
/-! SUPPORT. The external memory: every memory operation keeps the canonical form (log 4), and what a byte reads after a write. -/

namespace Sys2Proof.Machine

theorem memWfFrom_cons {lo a : Nat} {b : Byte} {m : Memory} :
    memWfFrom lo ((a, b) :: m) = true ↔ lo ≤ a ∧ a < 2 ^ 32 ∧ b ≠ unlistedByte ∧ memWfFrom (a + 1) m = true := by
  simp [memWfFrom, and_assoc]

theorem memWfFrom_mono {lo lo' : Nat} (h : lo' ≤ lo) : ∀ {m : Memory}, memWfFrom lo m = true → memWfFrom lo' m = true
  | [], _ => rfl
  | (_, _) :: _, hm => by
    rw [memWfFrom_cons] at hm ⊢
    exact ⟨h.trans hm.1, hm.2⟩

/-- An address below every listed one reads as unlisted. -/
theorem memRead_below {x : Nat} : ∀ {lo : Nat} {m : Memory}, memWfFrom lo m = true → x < lo → memRead m x = unlistedByte
  | _, [], _, _ => rfl
  | _, (a, _) :: _, hm, hx => by
    rw [memWfFrom_cons] at hm
    have : a ≠ x := by omega
    simp only [memRead, this, if_false]
    exact memRead_below hm.2.2.2 (by omega)

theorem memErase_wf (x : Nat) : ∀ {lo : Nat} {m : Memory}, memWfFrom lo m = true → memWfFrom lo (memErase m x) = true
  | _, [], _ => rfl
  | lo, (a, b) :: m, hm => by
    rw [memWfFrom_cons] at hm
    by_cases h : a = x
    · simpa [memErase, h] using memWfFrom_mono (by omega) hm.2.2.2
    · simp only [memErase, h, if_false]
      rw [memWfFrom_cons]
      exact ⟨hm.1, hm.2.1, hm.2.2.1, memErase_wf x hm.2.2.2⟩

theorem memInsert_wf {x : Nat} {v : Byte} (hx : x < 2 ^ 32) (hv : v ≠ unlistedByte) :
    ∀ {lo : Nat} {m : Memory}, lo ≤ x → memWfFrom lo m = true → memWfFrom lo (memInsert m x v) = true
  | lo, [], h, _ => by rw [memInsert, memWfFrom_cons]; exact ⟨h, hx, hv, rfl⟩
  | lo, (a, b) :: m, h, hm => by
    have hm' := hm
    rw [memWfFrom_cons] at hm
    unfold memInsert
    split
    · rw [memWfFrom_cons, memWfFrom_cons]
      exact ⟨h, hx, hv, by omega, hm.2⟩
    · split
      · rw [memWfFrom_cons]
        refine ⟨h, hx, hv, ?_⟩
        have : a = x := by assumption
        subst this; exact hm.2.2.2
      · rw [memWfFrom_cons]
        exact ⟨hm.1, hm.2.1, hm.2.2.1, memInsert_wf hx hv (by omega) hm.2.2.2⟩

/-- A write keeps the canonical form. -/
theorem memWrite_wf {m : Memory} {x : Nat} (v : Byte) (hx : x < 2 ^ 32) (h : Memory.wf m = true) :
    Memory.wf (memWrite m x v) = true := by
  unfold memWrite
  split
  · exact memErase_wf x h
  · exact memInsert_wf hx (by assumption) (Nat.zero_le _) h

theorem addrPlus_lt (a : Word) (i : Nat) : addrPlus a i < 2 ^ 32 := (a + BitVec.ofNat 32 i).isLt

/-- A copy keeps the canonical form. -/
theorem copyBytes_wf (old : Memory) (src dst : Word) : ∀ (n : Nat) {m : Memory}, Memory.wf m = true →
    Memory.wf (copyBytes old src dst n m) = true
  | 0, _, h => h
  | n + 1, _, h => memWrite_wf _ (addrPlus_lt dst n) (copyBytes_wf old src dst n h)

theorem memCopy_wf {m : Memory} (src dst n : Word) (h : Memory.wf m = true) : Memory.wf (memCopy m src dst n) = true :=
  copyBytes_wf m src dst n.toNat h

/-- The reset memory has the canonical form. -/
theorem reset_mem_wf (c : Config) : Memory.wf (State.powerOn c).mem = true := rfl

theorem memRead_memErase_ne {x y : Nat} (h : y ≠ x) : ∀ m : Memory, memRead (memErase m x) y = memRead m y
  | [] => rfl
  | (a, b) :: m => by
    by_cases ha : a = x
    · subst ha
      simp [memErase, memRead, Ne.symm h]
    · simp only [memErase, ha, if_false, memRead, memRead_memErase_ne h m]

theorem memRead_memInsert_ne {x y : Nat} (v : Byte) (h : y ≠ x) : ∀ m : Memory, memRead (memInsert m x v) y = memRead m y
  | [] => by simp [memInsert, memRead, Ne.symm h]
  | (a, b) :: m => by
    unfold memInsert
    split
    · simp [memRead, Ne.symm h]
    · split
      · rename_i ha; subst ha; simp [memRead, Ne.symm h]
      · simp only [memRead, memRead_memInsert_ne v h m]

theorem memRead_memInsert_same (x : Nat) (v : Byte) : ∀ m : Memory, memRead (memInsert m x v) x = v
  | [] => by simp [memInsert, memRead]
  | (a, b) :: m => by
    unfold memInsert
    split
    · simp [memRead]
    · split
      · simp [memRead]
      · simp only [memRead, memRead_memInsert_same x v m]; simp [*]

theorem memRead_memErase_same (x : Nat) : ∀ {lo : Nat} {m : Memory}, memWfFrom lo m = true →
    memRead (memErase m x) x = unlistedByte
  | _, [], _ => rfl
  | _, (a, b) :: m, hm => by
    rw [memWfFrom_cons] at hm
    by_cases h : a = x
    · subst h
      simpa [memErase] using memRead_below hm.2.2.2 (Nat.lt_succ_self a)
    · simp only [memErase, h, if_false, memRead]
      exact memRead_memErase_same x hm.2.2.2

/-- Read after write, the same address. -/
theorem memRead_memWrite_same {m : Memory} (x : Nat) (v : Byte) (h : Memory.wf m = true) : memRead (memWrite m x v) x = v := by
  unfold memWrite
  split
  · subst v; exact memRead_memErase_same x h
  · exact memRead_memInsert_same x v m

/-- Read after write, another address. -/
theorem memRead_memWrite_ne {x y : Nat} (m : Memory) (v : Byte) (h : y ≠ x) : memRead (memWrite m x v) y = memRead m y := by
  unfold memWrite
  split
  · exact memRead_memErase_ne h m
  · exact memRead_memInsert_ne v h m

end Sys2Proof.Machine
end

