-- ==== Sys2Proof/Laws/State.lean ====
section
/-! SUPPORT. One lemma per field per update of `State`, true by computation, so that no proof unfolds a record update. -/

namespace Sys2Proof.Machine

/-! ## `emit`, `warn`, `ret` -/

@[simp] theorem emit_cfg (x : Output) (s : State) : (emit x s).cfg = s.cfg := rfl
@[simp] theorem emit_gpio (x : Output) (s : State) : (emit x s).gpio = s.gpio := rfl
@[simp] theorem emit_uart (x : Output) (s : State) : (emit x s).uart = s.uart := rfl
@[simp] theorem emit_u16 (x : Output) (s : State) : (emit x s).u16 = s.u16 := rfl
@[simp] theorem emit_spi (x : Output) (s : State) : (emit x s).spi = s.spi := rfl
@[simp] theorem emit_i2c (x : Output) (s : State) : (emit x s).i2c = s.i2c := rfl
@[simp] theorem emit_timer (x : Output) (s : State) : (emit x s).timer = s.timer := rfl
@[simp] theorem emit_dma (x : Output) (s : State) : (emit x s).dma = s.dma := rfl
@[simp] theorem emit_intc (x : Output) (s : State) : (emit x s).intc = s.intc := rfl
@[simp] theorem emit_lines (x : Output) (s : State) : (emit x s).lines = s.lines := rfl
@[simp] theorem emit_mem (x : Output) (s : State) : (emit x s).mem = s.mem := rfl
@[simp] theorem emit_input (x : Output) (s : State) : (emit x s).input = s.input := rfl
@[simp] theorem emit_result (x : Output) (s : State) : (emit x s).result = s.result := rfl
@[simp] theorem emit_trace (x : Output) (s : State) : (emit x s).trace = s.trace ++ [x] := rfl
@[simp] theorem warn_cfg (c : Warning) (s : State) : (warn c s).cfg = s.cfg := rfl
@[simp] theorem warn_gpio (c : Warning) (s : State) : (warn c s).gpio = s.gpio := rfl
@[simp] theorem warn_uart (c : Warning) (s : State) : (warn c s).uart = s.uart := rfl
@[simp] theorem warn_u16 (c : Warning) (s : State) : (warn c s).u16 = s.u16 := rfl
@[simp] theorem warn_spi (c : Warning) (s : State) : (warn c s).spi = s.spi := rfl
@[simp] theorem warn_i2c (c : Warning) (s : State) : (warn c s).i2c = s.i2c := rfl
@[simp] theorem warn_timer (c : Warning) (s : State) : (warn c s).timer = s.timer := rfl
@[simp] theorem warn_dma (c : Warning) (s : State) : (warn c s).dma = s.dma := rfl
@[simp] theorem warn_intc (c : Warning) (s : State) : (warn c s).intc = s.intc := rfl
@[simp] theorem warn_lines (c : Warning) (s : State) : (warn c s).lines = s.lines := rfl
@[simp] theorem warn_mem (c : Warning) (s : State) : (warn c s).mem = s.mem := rfl
@[simp] theorem warn_input (c : Warning) (s : State) : (warn c s).input = s.input := rfl
@[simp] theorem warn_result (c : Warning) (s : State) : (warn c s).result = s.result := rfl
@[simp] theorem warn_trace (c : Warning) (s : State) : (warn c s).trace = s.trace ++ [.warn c] := rfl
@[simp] theorem ret_cfg (r : Result) (s : State) : (ret r s).cfg = s.cfg := rfl
@[simp] theorem ret_gpio (r : Result) (s : State) : (ret r s).gpio = s.gpio := rfl
@[simp] theorem ret_uart (r : Result) (s : State) : (ret r s).uart = s.uart := rfl
@[simp] theorem ret_u16 (r : Result) (s : State) : (ret r s).u16 = s.u16 := rfl
@[simp] theorem ret_spi (r : Result) (s : State) : (ret r s).spi = s.spi := rfl
@[simp] theorem ret_i2c (r : Result) (s : State) : (ret r s).i2c = s.i2c := rfl
@[simp] theorem ret_timer (r : Result) (s : State) : (ret r s).timer = s.timer := rfl
@[simp] theorem ret_dma (r : Result) (s : State) : (ret r s).dma = s.dma := rfl
@[simp] theorem ret_intc (r : Result) (s : State) : (ret r s).intc = s.intc := rfl
@[simp] theorem ret_lines (r : Result) (s : State) : (ret r s).lines = s.lines := rfl
@[simp] theorem ret_mem (r : Result) (s : State) : (ret r s).mem = s.mem := rfl
@[simp] theorem ret_input (r : Result) (s : State) : (ret r s).input = s.input := rfl
@[simp] theorem ret_trace (r : Result) (s : State) : (ret r s).trace = s.trace := rfl
@[simp] theorem ret_result (r : Result) (s : State) : (ret r s).result = r := rfl

/-! ## `setCmp`, `setChan` -/

@[simp] theorem setCmp_cfg (s : State) (k : Nat) (c : Cmp) : (setCmp s k c).cfg = s.cfg := rfl
@[simp] theorem setCmp_gpio (s : State) (k : Nat) (c : Cmp) : (setCmp s k c).gpio = s.gpio := rfl
@[simp] theorem setCmp_uart (s : State) (k : Nat) (c : Cmp) : (setCmp s k c).uart = s.uart := rfl
@[simp] theorem setCmp_u16 (s : State) (k : Nat) (c : Cmp) : (setCmp s k c).u16 = s.u16 := rfl
@[simp] theorem setCmp_spi (s : State) (k : Nat) (c : Cmp) : (setCmp s k c).spi = s.spi := rfl
@[simp] theorem setCmp_i2c (s : State) (k : Nat) (c : Cmp) : (setCmp s k c).i2c = s.i2c := rfl
@[simp] theorem setCmp_dma (s : State) (k : Nat) (c : Cmp) : (setCmp s k c).dma = s.dma := rfl
@[simp] theorem setCmp_intc (s : State) (k : Nat) (c : Cmp) : (setCmp s k c).intc = s.intc := rfl
@[simp] theorem setCmp_lines (s : State) (k : Nat) (c : Cmp) : (setCmp s k c).lines = s.lines := rfl
@[simp] theorem setCmp_mem (s : State) (k : Nat) (c : Cmp) : (setCmp s k c).mem = s.mem := rfl
@[simp] theorem setCmp_input (s : State) (k : Nat) (c : Cmp) : (setCmp s k c).input = s.input := rfl
@[simp] theorem setCmp_trace (s : State) (k : Nat) (c : Cmp) : (setCmp s k c).trace = s.trace := rfl
@[simp] theorem setCmp_result (s : State) (k : Nat) (c : Cmp) : (setCmp s k c).result = s.result := rfl
@[simp] theorem setCmp_timer (s : State) (k : Nat) (c : Cmp) : (setCmp s k c).timer = { s.timer with cmp := s.timer.cmp.set k c } := rfl
@[simp] theorem setChan_cfg (s : State) (n : Nat) (c : DmaChannel) : (setChan s n c).cfg = s.cfg := rfl
@[simp] theorem setChan_gpio (s : State) (n : Nat) (c : DmaChannel) : (setChan s n c).gpio = s.gpio := rfl
@[simp] theorem setChan_uart (s : State) (n : Nat) (c : DmaChannel) : (setChan s n c).uart = s.uart := rfl
@[simp] theorem setChan_u16 (s : State) (n : Nat) (c : DmaChannel) : (setChan s n c).u16 = s.u16 := rfl
@[simp] theorem setChan_spi (s : State) (n : Nat) (c : DmaChannel) : (setChan s n c).spi = s.spi := rfl
@[simp] theorem setChan_i2c (s : State) (n : Nat) (c : DmaChannel) : (setChan s n c).i2c = s.i2c := rfl
@[simp] theorem setChan_timer (s : State) (n : Nat) (c : DmaChannel) : (setChan s n c).timer = s.timer := rfl
@[simp] theorem setChan_intc (s : State) (n : Nat) (c : DmaChannel) : (setChan s n c).intc = s.intc := rfl
@[simp] theorem setChan_lines (s : State) (n : Nat) (c : DmaChannel) : (setChan s n c).lines = s.lines := rfl
@[simp] theorem setChan_mem (s : State) (n : Nat) (c : DmaChannel) : (setChan s n c).mem = s.mem := rfl
@[simp] theorem setChan_input (s : State) (n : Nat) (c : DmaChannel) : (setChan s n c).input = s.input := rfl
@[simp] theorem setChan_trace (s : State) (n : Nat) (c : DmaChannel) : (setChan s n c).trace = s.trace := rfl
@[simp] theorem setChan_result (s : State) (n : Nat) (c : DmaChannel) : (setChan s n c).result = s.result := rfl
@[simp] theorem setChan_dma (s : State) (n : Nat) (c : DmaChannel) : (setChan s n c).dma = { s.dma with ch := s.dma.ch.set n c } := rfl

/-! ## `setPort`, `setFifo` -/

@[simp] theorem setPort_cfg (w : Serial) (p : Port) (s : State) : (setPort w p s).cfg = s.cfg := by cases w <;> rfl
@[simp] theorem setPort_gpio (w : Serial) (p : Port) (s : State) : (setPort w p s).gpio = s.gpio := by cases w <;> rfl
@[simp] theorem setPort_timer (w : Serial) (p : Port) (s : State) : (setPort w p s).timer = s.timer := by cases w <;> rfl
@[simp] theorem setPort_dma (w : Serial) (p : Port) (s : State) : (setPort w p s).dma = s.dma := by cases w <;> rfl
@[simp] theorem setPort_intc (w : Serial) (p : Port) (s : State) : (setPort w p s).intc = s.intc := by cases w <;> rfl
@[simp] theorem setPort_lines (w : Serial) (p : Port) (s : State) : (setPort w p s).lines = s.lines := by cases w <;> rfl
@[simp] theorem setPort_mem (w : Serial) (p : Port) (s : State) : (setPort w p s).mem = s.mem := by cases w <;> rfl
@[simp] theorem setPort_input (w : Serial) (p : Port) (s : State) : (setPort w p s).input = s.input := by cases w <;> rfl
@[simp] theorem setPort_trace (w : Serial) (p : Port) (s : State) : (setPort w p s).trace = s.trace := by cases w <;> rfl
@[simp] theorem setPort_result (w : Serial) (p : Port) (s : State) : (setPort w p s).result = s.result := by cases w <;> rfl
@[simp] theorem portOf_setPort (w : Serial) (p : Port) (s : State) : portOf w (setPort w p s) = p := by cases w <;> rfl
theorem portOf_setPort_ne {w x : Serial} (h : x ≠ w) (p : Port) (s : State) : portOf x (setPort w p s) = portOf x s := by
  cases w <;> cases x <;> first | rfl | exact absurd rfl h
@[simp] theorem setPort_setPort (w : Serial) (p q : Port) (s : State) : setPort w q (setPort w p s) = setPort w q s := by cases w <;> rfl
@[simp] theorem setPort_portOf (w : Serial) (s : State) : setPort w (portOf w s) s = s := by cases w <;> rfl
@[simp] theorem setPort_uart (p : Port) (s : State) : (setPort .uart p s).uart = { s.uart with port := p } := rfl
@[simp] theorem setPort_uart_u16 (p : Port) (s : State) : (setPort .uart p s).u16 = s.u16 := rfl
@[simp] theorem setPort_uart_spi (p : Port) (s : State) : (setPort .uart p s).spi = s.spi := rfl
@[simp] theorem setPort_uart_i2c (p : Port) (s : State) : (setPort .uart p s).i2c = s.i2c := rfl
@[simp] theorem setPort_uart16550 (p : Port) (s : State) : (setPort .uart16550 p s).u16 = { s.u16 with port := p } := rfl
@[simp] theorem setPort_uart16550_uart (p : Port) (s : State) : (setPort .uart16550 p s).uart = s.uart := rfl
@[simp] theorem setPort_uart16550_spi (p : Port) (s : State) : (setPort .uart16550 p s).spi = s.spi := rfl
@[simp] theorem setPort_uart16550_i2c (p : Port) (s : State) : (setPort .uart16550 p s).i2c = s.i2c := rfl
@[simp] theorem setPort_spi (p : Port) (s : State) : (setPort .spi p s).spi = { s.spi with port := p } := rfl
@[simp] theorem setPort_spi_uart (p : Port) (s : State) : (setPort .spi p s).uart = s.uart := rfl
@[simp] theorem setPort_spi_u16 (p : Port) (s : State) : (setPort .spi p s).u16 = s.u16 := rfl
@[simp] theorem setPort_spi_i2c (p : Port) (s : State) : (setPort .spi p s).i2c = s.i2c := rfl
@[simp] theorem setPort_i2c (p : Port) (s : State) : (setPort .i2c p s).i2c = { s.i2c with port := p } := rfl
@[simp] theorem setPort_i2c_uart (p : Port) (s : State) : (setPort .i2c p s).uart = s.uart := rfl
@[simp] theorem setPort_i2c_u16 (p : Port) (s : State) : (setPort .i2c p s).u16 = s.u16 := rfl
@[simp] theorem setPort_i2c_spi (p : Port) (s : State) : (setPort .i2c p s).spi = s.spi := rfl
@[simp] theorem portOf_uart (s : State) : portOf .uart s = s.uart.port := rfl
@[simp] theorem portOf_uart16550 (s : State) : portOf .uart16550 s = s.u16.port := rfl
@[simp] theorem portOf_spi (s : State) : portOf .spi s = s.spi.port := rfl
@[simp] theorem portOf_i2c (s : State) : portOf .i2c s = s.i2c.port := rfl
@[simp] theorem setFifo_cfg (q : FifoId) (b : List Byte) (s : State) : (setFifo q b s).cfg = s.cfg := by
  unfold setFifo; split <;> simp
@[simp] theorem setFifo_gpio (q : FifoId) (b : List Byte) (s : State) : (setFifo q b s).gpio = s.gpio := by
  unfold setFifo; split <;> simp
@[simp] theorem setFifo_timer (q : FifoId) (b : List Byte) (s : State) : (setFifo q b s).timer = s.timer := by
  unfold setFifo; split <;> simp
@[simp] theorem setFifo_dma (q : FifoId) (b : List Byte) (s : State) : (setFifo q b s).dma = s.dma := by
  unfold setFifo; split <;> simp
@[simp] theorem setFifo_intc (q : FifoId) (b : List Byte) (s : State) : (setFifo q b s).intc = s.intc := by
  unfold setFifo; split <;> simp
@[simp] theorem setFifo_lines (q : FifoId) (b : List Byte) (s : State) : (setFifo q b s).lines = s.lines := by
  unfold setFifo; split <;> simp
@[simp] theorem setFifo_mem (q : FifoId) (b : List Byte) (s : State) : (setFifo q b s).mem = s.mem := by
  unfold setFifo; split <;> simp
@[simp] theorem setFifo_input (q : FifoId) (b : List Byte) (s : State) : (setFifo q b s).input = s.input := by
  unfold setFifo; split <;> simp
@[simp] theorem setFifo_trace (q : FifoId) (b : List Byte) (s : State) : (setFifo q b s).trace = s.trace := by
  unfold setFifo; split <;> simp
@[simp] theorem setFifo_result (q : FifoId) (b : List Byte) (s : State) : (setFifo q b s).result = s.result := by
  unfold setFifo; split <;> simp
@[simp] theorem setFifo_tx (w : Serial) (b : List Byte) (s : State) : setFifo ⟨w, .tx⟩ b s = setPort w { portOf w s with tx := b } s := rfl
@[simp] theorem setFifo_rx (w : Serial) (b : List Byte) (s : State) : setFifo ⟨w, .rx⟩ b s = setPort w { portOf w s with rx := b } s := rfl
@[simp] theorem fifoOf_tx (w : Serial) (s : State) : fifoOf ⟨w, .tx⟩ s = (portOf w s).tx := rfl
@[simp] theorem fifoOf_rx (w : Serial) (s : State) : fifoOf ⟨w, .rx⟩ s = (portOf w s).rx := rfl
@[simp] theorem fifoOf_setFifo (q : FifoId) (b : List Byte) (s : State) : fifoOf q (setFifo q b s) = b := by
  rcases q with ⟨w, d⟩; cases d <;> simp

/-! ## `setLine` -/

@[simp] theorem setLine_cfg (w : Window) (b : Bool) (s : State) : (setLine w b s).cfg = s.cfg := by cases w <;> rfl
@[simp] theorem setLine_gpio (w : Window) (b : Bool) (s : State) : (setLine w b s).gpio = s.gpio := by cases w <;> rfl
@[simp] theorem setLine_uart (w : Window) (b : Bool) (s : State) : (setLine w b s).uart = s.uart := by cases w <;> rfl
@[simp] theorem setLine_u16 (w : Window) (b : Bool) (s : State) : (setLine w b s).u16 = s.u16 := by cases w <;> rfl
@[simp] theorem setLine_spi (w : Window) (b : Bool) (s : State) : (setLine w b s).spi = s.spi := by cases w <;> rfl
@[simp] theorem setLine_i2c (w : Window) (b : Bool) (s : State) : (setLine w b s).i2c = s.i2c := by cases w <;> rfl
@[simp] theorem setLine_timer (w : Window) (b : Bool) (s : State) : (setLine w b s).timer = s.timer := by cases w <;> rfl
@[simp] theorem setLine_dma (w : Window) (b : Bool) (s : State) : (setLine w b s).dma = s.dma := by cases w <;> rfl
@[simp] theorem setLine_intc (w : Window) (b : Bool) (s : State) : (setLine w b s).intc = s.intc := by cases w <;> rfl
@[simp] theorem setLine_mem (w : Window) (b : Bool) (s : State) : (setLine w b s).mem = s.mem := by cases w <;> rfl
@[simp] theorem setLine_input (w : Window) (b : Bool) (s : State) : (setLine w b s).input = s.input := by cases w <;> rfl
@[simp] theorem setLine_trace (w : Window) (b : Bool) (s : State) : (setLine w b s).trace = s.trace := by cases w <;> rfl
@[simp] theorem setLine_result (w : Window) (b : Bool) (s : State) : (setLine w b s).result = s.result := by cases w <;> rfl
@[simp] theorem lineOf_setLine (w : Window) (b : Bool) (s : State) : lineOf w (setLine w b s) = b := by cases w <;> rfl
theorem lineOf_setLine_ne {w x : Window} (h : x ≠ w) (b : Bool) (s : State) : lineOf x (setLine w b s) = lineOf x s := by
  cases w <;> cases x <;> first | rfl | exact absurd rfl h
@[simp] theorem lineOf_emit (w : Window) (x : Output) (s : State) : lineOf w (emit x s) = lineOf w s := by cases w <;> rfl
@[simp] theorem lineOf_ret (w : Window) (r : Result) (s : State) : lineOf w (ret r s) = lineOf w s := by cases w <;> rfl
@[simp] theorem lineOf_setPort (w : Window) (x : Serial) (p : Port) (s : State) : lineOf w (setPort x p s) = lineOf w s := by
  cases w <;> cases x <;> rfl
@[simp] theorem lineOf_warn (w : Window) (c : Warning) (s : State) : lineOf w (warn c s) = lineOf w s := by cases w <;> rfl
@[simp] theorem lineOf_setCmp (w : Window) (s : State) (k : Nat) (c : Cmp) : lineOf w (setCmp s k c) = lineOf w s := by cases w <;> rfl
@[simp] theorem lineOf_setChan (w : Window) (s : State) (n : Nat) (c : DmaChannel) : lineOf w (setChan s n c) = lineOf w s := by cases w <;> rfl

end Sys2Proof.Machine
end

