-- ==== Sys2Proof/Laws/Ops.lean ====
section
/-! SUPPORT. One lemma per shared operation that says what it can do: outputs and completion, the interrupt line and the hook, the queues, the serial core, the DMA request, the timer tick, the indexed entries. -/

namespace Sys2Proof.Machine

/-! ## Completion -/

/-- Going on after an operation answers a next state only where both parts do. -/
theorem andThen_eq_next {o : Host.Outcome State Fault Refusal} {f : State → Host.Outcome State Fault Refusal} {t : State} :
    andThen o f = .next t ↔ ∃ s1, o = .next s1 ∧ f s1 = .next t := by
  cases o <;> simp [andThen]

@[simp] theorem andThen_next (s : State) (f : State → Host.Outcome State Fault Refusal) : andThen (.next s) f = f s := rfl

theorem unmatchedRead_eq (off : Nat) (s : State) :
    unmatchedRead off s = .next { s with trace := s.trace ++ [.warn (.oorRead off)], result := .word 0 } := rfl

theorem unmatchedWrite_eq (off : Nat) (s : State) :
    unmatchedWrite off s = .next { s with trace := s.trace ++ [.warn (.oorWrite off)], result := .nothing } := rfl

/-! ## Reading a port through an output -/

@[simp] theorem portOf_emit (w : Serial) (o : Output) (s : State) : portOf w (emit o s) = portOf w s := by cases w <;> rfl
@[simp] theorem portOf_warn (w : Serial) (c : Warning) (s : State) : portOf w (warn c s) = portOf w s := by cases w <;> rfl
@[simp] theorem loopbackOn_setPort (w x : Serial) (p : Port) (s : State) : loopbackOn w (setPort x p s) = loopbackOn w s := by
  cases w <;> cases x <;> rfl
@[simp] theorem loopbackOn_emit (w : Serial) (o : Output) (s : State) : loopbackOn w (emit o s) = loopbackOn w s := by
  cases w <;> rfl
@[simp] theorem txOn_setPort (w x : Serial) (p : Port) (s : State) : txOn w (setPort x p s) = txOn w s := by
  cases w <;> cases x <;> rfl
@[simp] theorem txOn_warn (w : Serial) (c : Warning) (s : State) : txOn w (warn c s) = txOn w s := by cases w <;> rfl

/-! ## The line and the hook -/

/-- The sources of a window depend on its component state and the parameters alone. -/
theorem sources_congr {w : Window} {s t : State} (hc : t.cfg = s.cfg) (h : windowSame w s t) : sources w t = sources w s := by
  cases s; cases t
  cases w <;> (simp only [windowSame] at h hc; subst h hc; rfl)

theorem lineLevel_congr {w : Window} {s t : State} (hc : t.cfg = s.cfg) (h : windowSame w s t) :
    lineLevel w t = lineLevel w s := by
  unfold lineLevel
  split <;> simp [sources_congr hc h]

theorem windowSame_refl (w : Window) (s : State) : windowSame w s s := by cases w <;> rfl

theorem windowSame_trans {w : Window} {s t u : State} (h : windowSame w s t) (h' : windowSame w t u) : windowSame w s u := by
  cases w <;> simp only [windowSame] at * <;> exact h'.trans h

theorem lineSet_eq (w : Window) (b : Bool) (s : State) :
    lineSet w b s = setLine w b { s with trace := s.trace ++ lineNotice w s (setLine w b s) } := by
  by_cases h : b = lineOf w s
  · subst h
    simp only [lineSet, ne_eq, not_true, if_false, lineNotice, lineOf_setLine, if_true, List.append_nil]
    cases w <;> rfl
  · simp only [lineSet, ne_eq, h, not_false_eq_true, if_true, lineNotice, lineOf_setLine, if_false]
    cases w <;> rfl

@[simp] theorem lineOf_lineSet (w : Window) (b : Bool) (s : State) : lineOf w (lineSet w b s) = b := by
  rw [lineSet_eq, lineOf_setLine]

theorem lineOf_withTrace (w : Window) (tr : List Output) (s : State) : lineOf w { s with trace := tr } = lineOf w s := by
  cases w <;> rfl

theorem lineOf_lineSet_ne {w x : Window} (h : x ≠ w) (b : Bool) (s : State) : lineOf x (lineSet w b s) = lineOf x s := by
  rw [lineSet_eq, lineOf_setLine_ne h, lineOf_withTrace]

theorem windowSame_lineSet (x w : Window) (b : Bool) (s : State) : windowSame x s (lineSet w b s) := by
  rw [lineSet_eq]; cases x <;> cases w <;> rfl

theorem lineSet_trace (w : Window) (b : Bool) (s : State) :
    (lineSet w b s).trace = s.trace ++ lineNotice w s (lineSet w b s) := by
  rw [lineSet_eq]
  simp only [setLine_trace, lineNotice, lineOf_setLine]

@[simp] theorem lineSet_cfg (w : Window) (b : Bool) (s : State) : (lineSet w b s).cfg = s.cfg := by rw [lineSet_eq]; simp
@[simp] theorem lineSet_mem (w : Window) (b : Bool) (s : State) : (lineSet w b s).mem = s.mem := by rw [lineSet_eq]; simp
@[simp] theorem lineSet_input (w : Window) (b : Bool) (s : State) : (lineSet w b s).input = s.input := by rw [lineSet_eq]; simp
@[simp] theorem lineSet_result (w : Window) (b : Bool) (s : State) : (lineSet w b s).result = s.result := by rw [lineSet_eq]; simp

@[simp] theorem updateInterrupts_cfg (w : Window) (s : State) : (updateInterrupts w s).cfg = s.cfg := by simp [updateInterrupts]
@[simp] theorem updateInterrupts_mem (w : Window) (s : State) : (updateInterrupts w s).mem = s.mem := by simp [updateInterrupts]
@[simp] theorem updateInterrupts_input (w : Window) (s : State) : (updateInterrupts w s).input = s.input := by
  simp [updateInterrupts]
@[simp] theorem updateInterrupts_result (w : Window) (s : State) : (updateInterrupts w s).result = s.result := by
  simp [updateInterrupts]

theorem windowSame_updateInterrupts (x w : Window) (s : State) : windowSame x s (updateInterrupts w s) :=
  windowSame_lineSet x w _ s

theorem windowSame_ret (x : Window) (r : Result) (s : State) : windowSame x s (ret r s) := by cases x <;> rfl

theorem lineLevel_ret (w : Window) (r : Result) (s : State) : lineLevel w (ret r s) = lineLevel w s :=
  lineLevel_congr rfl (windowSame_ret w r s)

/-- What `UpdateInterrupts(w)` does, once: nothing outside the line of `w`, which gets the level of the table (R200), and
one notification if that is a change (R191). -/
theorem framed_updateInterrupts {w : Window} {outs : List Output} {s s1 : State} (r : Result) (ho : OnlyWindow w s s1)
    (hm : MemSame s s1) (hl : lineOf w s1 = lineOf w s) (ht : s1.trace = s.trace ++ outs) :
    Framed w outs r s (ret r (updateInterrupts w s1)) := by
  refine ⟨⟨by simpa using ho.1, by simpa using ho.2.1, fun x hx => ?_⟩, fun a => by simpa using hm a, ⟨?_, ?_⟩, rfl⟩
  · refine ⟨windowSame_trans (ho.2.2 x hx).1 (windowSame_trans (windowSame_updateInterrupts x w s1) (windowSame_ret _ _ _)), ?_⟩
    rw [lineOf_ret, updateInterrupts, lineOf_lineSet_ne hx]
    exact (ho.2.2 x hx).2
  · rw [lineLevel_ret, lineOf_ret, updateInterrupts, lineOf_lineSet]
    exact (lineLevel_congr (by simp) (windowSame_lineSet _ _ _ _)).symm
  · simp only [ret_trace, updateInterrupts, lineSet_trace, ht, List.append_assoc]
    simp only [lineNotice, lineOf_ret, hl, lineOf_lineSet]

/-- What the hook does, once: it answers a next state with the window as it found it and the frame. -/
theorem hook_framed {w : Window} {outs : List Output} {s s1 : State} (ho : OnlyWindow w s s1) (hm : MemSame s s1)
    (hl : lineOf w s1 = lineOf w s) (ht : s1.trace = s.trace ++ outs) :
    ∃ t, hook w s1 = .next t ∧ windowSame w s1 t ∧ Framed w outs .nothing s t :=
  ⟨_, rfl, windowSame_trans (windowSame_updateInterrupts w w s1) (windowSame_ret _ _ _),
    framed_updateInterrupts .nothing ho hm hl ht⟩

/-! ## Updates of one window -/

theorem onlyWindow_gpio (s : State) (x : Gpio) : OnlyWindow .gpio s { s with gpio := x } :=
  ⟨rfl, rfl, fun y hy => by cases y <;> first | exact ⟨rfl, rfl⟩ | exact absurd rfl hy⟩

/-- What a write that ends in the hook does: the window's component state, and the frame. -/
theorem hook_gpio (s : State) (x : Gpio) :
    ∃ t, hook .gpio { s with gpio := x } = .next t ∧ t.gpio = x ∧ Framed .gpio [] .nothing s t := by
  obtain ⟨t, h, hw, hf⟩ := hook_framed (onlyWindow_gpio s x) (fun _ => rfl) rfl (List.append_nil _).symm
  exact ⟨t, h, hw, hf⟩

theorem onlyWindow_uart (s : State) (x : Uart) : OnlyWindow .uart s { s with uart := x } :=
  ⟨rfl, rfl, fun y hy => by cases y <;> first | exact ⟨rfl, rfl⟩ | exact absurd rfl hy⟩

/-- What a write that ends in the hook does: the window's component state, and the frame. -/
theorem hook_uart (s : State) (x : Uart) :
    ∃ t, hook .uart { s with uart := x } = .next t ∧ t.uart = x ∧ Framed .uart [] .nothing s t := by
  obtain ⟨t, h, hw, hf⟩ := hook_framed (onlyWindow_uart s x) (fun _ => rfl) rfl (List.append_nil _).symm
  exact ⟨t, h, hw, hf⟩

theorem onlyWindow_uart16550 (s : State) (x : Uart16550) : OnlyWindow .uart16550 s { s with u16 := x } :=
  ⟨rfl, rfl, fun y hy => by cases y <;> first | exact ⟨rfl, rfl⟩ | exact absurd rfl hy⟩

/-- What a write that ends in the hook does: the window's component state, and the frame. -/
theorem hook_uart16550 (s : State) (x : Uart16550) :
    ∃ t, hook .uart16550 { s with u16 := x } = .next t ∧ t.u16 = x ∧ Framed .uart16550 [] .nothing s t := by
  obtain ⟨t, h, hw, hf⟩ := hook_framed (onlyWindow_uart16550 s x) (fun _ => rfl) rfl (List.append_nil _).symm
  exact ⟨t, h, hw, hf⟩

theorem onlyWindow_spi (s : State) (x : Spi) : OnlyWindow .spi s { s with spi := x } :=
  ⟨rfl, rfl, fun y hy => by cases y <;> first | exact ⟨rfl, rfl⟩ | exact absurd rfl hy⟩

/-- What a write that ends in the hook does: the window's component state, and the frame. -/
theorem hook_spi (s : State) (x : Spi) :
    ∃ t, hook .spi { s with spi := x } = .next t ∧ t.spi = x ∧ Framed .spi [] .nothing s t := by
  obtain ⟨t, h, hw, hf⟩ := hook_framed (onlyWindow_spi s x) (fun _ => rfl) rfl (List.append_nil _).symm
  exact ⟨t, h, hw, hf⟩

theorem onlyWindow_i2c (s : State) (x : I2c) : OnlyWindow .i2c s { s with i2c := x } :=
  ⟨rfl, rfl, fun y hy => by cases y <;> first | exact ⟨rfl, rfl⟩ | exact absurd rfl hy⟩

/-- What a write that ends in the hook does: the window's component state, and the frame. -/
theorem hook_i2c (s : State) (x : I2c) :
    ∃ t, hook .i2c { s with i2c := x } = .next t ∧ t.i2c = x ∧ Framed .i2c [] .nothing s t := by
  obtain ⟨t, h, hw, hf⟩ := hook_framed (onlyWindow_i2c s x) (fun _ => rfl) rfl (List.append_nil _).symm
  exact ⟨t, h, hw, hf⟩

theorem onlyWindow_timer (s : State) (x : Timer) : OnlyWindow .timer s { s with timer := x } :=
  ⟨rfl, rfl, fun y hy => by cases y <;> first | exact ⟨rfl, rfl⟩ | exact absurd rfl hy⟩

/-- What a write that ends in the hook does: the window's component state, and the frame. -/
theorem hook_timer (s : State) (x : Timer) :
    ∃ t, hook .timer { s with timer := x } = .next t ∧ t.timer = x ∧ Framed .timer [] .nothing s t := by
  obtain ⟨t, h, hw, hf⟩ := hook_framed (onlyWindow_timer s x) (fun _ => rfl) rfl (List.append_nil _).symm
  exact ⟨t, h, hw, hf⟩

theorem onlyWindow_dma (s : State) (x : Dma) : OnlyWindow .dma s { s with dma := x } :=
  ⟨rfl, rfl, fun y hy => by cases y <;> first | exact ⟨rfl, rfl⟩ | exact absurd rfl hy⟩

/-- What a write that ends in the hook does: the window's component state, and the frame. -/
theorem hook_dma (s : State) (x : Dma) :
    ∃ t, hook .dma { s with dma := x } = .next t ∧ t.dma = x ∧ Framed .dma [] .nothing s t := by
  obtain ⟨t, h, hw, hf⟩ := hook_framed (onlyWindow_dma s x) (fun _ => rfl) rfl (List.append_nil _).symm
  exact ⟨t, h, hw, hf⟩

theorem onlyWindow_intc (s : State) (x : Intc) : OnlyWindow .intc s { s with intc := x } :=
  ⟨rfl, rfl, fun y hy => by cases y <;> first | exact ⟨rfl, rfl⟩ | exact absurd rfl hy⟩

/-- What a write that ends in the hook does: the window's component state, and the frame. -/
theorem hook_intc (s : State) (x : Intc) :
    ∃ t, hook .intc { s with intc := x } = .next t ∧ t.intc = x ∧ Framed .intc [] .nothing s t := by
  obtain ⟨t, h, hw, hf⟩ := hook_framed (onlyWindow_intc s x) (fun _ => rfl) rfl (List.append_nil _).symm
  exact ⟨t, h, hw, hf⟩

/-! ## Queues -/

theorem fifoPush_full {cap : Nat} {q : List Byte} (b : Byte) (h : q.length = cap) : fifoPush cap q b = (false, q) := by
  simp [fifoPush, h]

theorem fifoPush_room {cap : Nat} {q : List Byte} (b : Byte) (h : q.length ≠ cap) : fifoPush cap q b = (true, q ++ [b]) := by
  simp [fifoPush, h]

/-- A push never takes a queue above its capacity (R171). -/
theorem fifoPush_length {cap : Nat} {q : List Byte} (b : Byte) (h : q.length ≤ cap) : (fifoPush cap q b).2.length ≤ cap := by
  unfold fifoPush
  split
  · exact h
  · simp only [List.length_append, List.length_cons, List.length_nil]; omega

theorem fifoPop_length (q : List Byte) : (fifoPop q).2.length ≤ q.length := by
  cases q <;> simp [fifoPop]

/-! ## The serial core: what it can change is its port and the trace -/

/-- `t` is `s` with another port for `w` and a longer trace. -/
def PortStep (w : Serial) (s t : State) : Prop :=
  ∃ (p : Port) (outs : List Output), t = setPort w p { s with trace := s.trace ++ outs }

theorem setPort_withTrace (w : Serial) (p : Port) (tr : List Output) (s : State) :
    setPort w p { s with trace := tr } = { setPort w p s with trace := tr } := by cases w <;> rfl

theorem PortStep.refl (w : Serial) (s : State) : PortStep w s s :=
  ⟨portOf w s, [], by simp⟩

theorem PortStep.trans {w : Serial} {s t u : State} (h : PortStep w s t) (h' : PortStep w t u) : PortStep w s u := by
  obtain ⟨p, o, rfl⟩ := h
  obtain ⟨p', o', rfl⟩ := h'
  refine ⟨p', o ++ o', ?_⟩
  simp only [setPort_withTrace, setPort_setPort, List.append_assoc]

theorem PortStep.setPort (w : Serial) (p : Port) (s : State) : PortStep w s (setPort w p s) :=
  ⟨p, [], by simp⟩

theorem PortStep.emit (w : Serial) (o : Output) (s : State) : PortStep w s (emit o s) :=
  ⟨portOf w s, [o], by cases w <;> rfl⟩

/-- What `RXPUSH` does to a queue with room (R297). -/
theorem rxPush_room {w : Serial} (b : Byte) {s : State} (h : (portOf w s).rx.length ≠ s.cfg.fifoCap) :
    rxPush w b s = Machine.setPort w { portOf w s with rx := (portOf w s).rx ++ [b] } s := by
  simp [rxPush, pushFifo, fifoPush, h]

/-- What `RXPUSH` does to a full queue: the byte is lost, the policy decides the flag (R297). -/
theorem rxPush_full {w : Serial} (b : Byte) {s : State} (h : (portOf w s).rx.length = s.cfg.fifoCap) :
    rxPush w b s =
      (match policyOf w s.cfg with
        | .rejectAndFlag => Machine.setPort w { portOf w s with overrun := true } (warn .overrun s)
        | .dropSilent => warn .overrun s) := by
  have hp : pushFifo ⟨w, .rx⟩ b s = (false, s) := by
    simp only [pushFifo, fifoOf_rx, fifoPush_full b h, setFifo_rx]
    rw [show ({ portOf w s with rx := (portOf w s).rx } : Port) = portOf w s from rfl, setPort_portOf]
  rw [rxPush, hp]
  cases policyOf w s.cfg <;> simp

theorem rxPush_portStep (w : Serial) (b : Byte) (s : State) : PortStep w s (rxPush w b s) := by
  by_cases h : (portOf w s).rx.length = s.cfg.fifoCap
  · rw [rxPush_full b h]
    split
    · exact (PortStep.emit w _ s).trans (PortStep.setPort w _ _)
    · exact PortStep.emit w _ s
  · rw [rxPush_room b h]
    exact PortStep.setPort w _ s

theorem drainByte_portStep (w : Serial) (b : Byte) (s : State) : PortStep w s (drainByte w b s) := by
  simp only [drainByte]
  split
  · exact (PortStep.emit w _ s).trans (rxPush_portStep w b _)
  · exact PortStep.emit w _ s

theorem drainBytes_portStep (w : Serial) : ∀ (bs : List Byte) (s : State), PortStep w s (drainBytes w bs s)
  | [], s => PortStep.refl w s
  | b :: bs, s => (drainByte_portStep w b s).trans (drainBytes_portStep w bs _)

theorem serDrain_portStep (w : Serial) (s : State) : PortStep w s (serDrain w s) :=
  (PortStep.setPort w _ s).trans (drainBytes_portStep w _ _)

/-- Without loopback a drain transmits the queue, oldest byte first, and leaves it empty (R294). -/
theorem drainBytes_eq {w : Serial} : ∀ (bs : List Byte) {s : State}, loopbackOn w s = false →
    drainBytes w bs s = { s with trace := s.trace ++ bs.map (Output.tx w) }
  | [], s, _ => by simp [drainBytes]
  | b :: bs, s, h => by
    have hb : drainByte w b s = emit (.tx w b) s := by simp [drainByte, h]
    rw [drainBytes, hb, drainBytes_eq bs (by simpa using h)]
    simp [emit]

theorem serDrain_eq {w : Serial} {s : State} (h : loopbackOn w s = false) :
    serDrain w s =
      { Machine.setPort w { portOf w s with tx := [] } s with trace := s.trace ++ (portOf w s).tx.map (Output.tx w) } := by
  rw [serDrain, drainBytes_eq _ (by simpa using h)]
  simp

theorem serDataWrite_portStep (w : Serial) (b : Byte) (s : State) : PortStep w s (serDataWrite w b s) := by
  have h : ∀ x : State, PortStep w s x → PortStep w s (if txOn w x then serDrain w x else x) := by
    intro x hx
    split
    · exact hx.trans (serDrain_portStep w x)
    · exact hx
  refine h _ ?_
  unfold pushFifo
  split
  · exact PortStep.setPort w _ s
  · exact (PortStep.setPort w _ s).trans (PortStep.emit w _ _)

/-- A data read of an empty queue: 0 and a warning (R295). -/
theorem serDataRead_nil {w : Serial} {s : State} (h : (portOf w s).rx = []) : serDataRead w s = (0, warn .rxEmpty s) := by
  have : setPort w { portOf w s with rx := [] } s = s := by
    rw [show ({ portOf w s with rx := [] } : Port) = portOf w s by rw [← h]]; simp
  simp [serDataRead, popFifo, fifoPop, h, this]

/-- A data read of a queue that holds bytes: the oldest one, which leaves it (R295). -/
theorem serDataRead_cons {w : Serial} {s : State} {b : Byte} {bs : List Byte} (h : (portOf w s).rx = b :: bs) :
    serDataRead w s = (b.setWidth 32, Machine.setPort w { portOf w s with rx := bs } s) := by
  simp [serDataRead, popFifo, fifoPop, h]

theorem serDataRead_portStep (w : Serial) (s : State) : PortStep w s (serDataRead w s).2 := by
  cases h : (portOf w s).rx with
  | nil => rw [serDataRead_nil h]; exact PortStep.emit w _ s
  | cons b bs => rw [serDataRead_cons h]; exact PortStep.setPort w _ s

theorem serRxChar_portStep (w : Serial) (b : Byte) (s : State) : PortStep w s (serRxChar w b s) := by
  unfold serRxChar
  split
  · exact rxPush_portStep w b s
  · exact PortStep.refl w s

theorem drainIfOn_portStep (w : Serial) (s : State) : PortStep w s (drainIfOn w s) := by
  unfold drainIfOn
  split
  · exact serDrain_portStep w s
  · exact PortStep.refl w s

theorem clearOverrun_portStep (w : Serial) (s : State) : PortStep w s (clearOverrun w s) := PortStep.setPort w _ s

/-- What a port step leaves unchanged. -/
theorem PortStep.frame {w : Serial} {s t : State} (h : PortStep w s t) :
    OnlyWindow (serialWindow w) s t ∧ MemSame s t ∧ lineOf (serialWindow w) t = lineOf (serialWindow w) s ∧
      ∃ outs, t.trace = s.trace ++ outs := by
  obtain ⟨p, outs, rfl⟩ := h
  refine ⟨⟨by simp, by simp, fun x hx => ⟨?_, by simp [lineOf_withTrace]⟩⟩, fun a => by simp, by simp [lineOf_withTrace],
    outs, by simp⟩
  cases w <;> cases x <;> first | rfl | exact absurd rfl hx

/-! ## Indexed entries -/

theorem cmpAt_eq_some {s : State} {k : Nat} {c : Cmp} : cmpAt s k = some c ↔ k < s.cfg.nCmp ∧ s.timer.cmp[k]? = some c := by
  unfold cmpAt; split <;> simp_all

theorem chanAt_eq_some {s : State} {n : Nat} {c : DmaChannel} :
    chanAt s n = some c ↔ n < s.cfg.nDmaCh ∧ s.dma.ch[n]? = some c := by
  unfold chanAt; split <;> simp_all

theorem prioAt_eq_some {s : State} {n : Nat} {p : Byte} :
    prioAt s n = some p ↔ n < s.cfg.nIrqSrc ∧ s.intc.prio[n]? = some p := by
  unfold prioAt; split <;> simp_all

theorem cmpAt_setCmp_same {s : State} {k : Nat} {c : Cmp} (d : Cmp) (h : cmpAt s k = some c) : cmpAt (setCmp s k d) k = some d := by
  rw [cmpAt_eq_some] at h ⊢
  obtain ⟨hk, hl⟩ := h
  have := (List.getElem?_eq_some_iff.mp hl).1
  exact ⟨by simpa using hk, by simp [this]⟩

theorem chanAt_setChan_same {s : State} {n : Nat} {c : DmaChannel} (d : DmaChannel) (h : chanAt s n = some c) :
    chanAt (setChan s n d) n = some d := by
  rw [chanAt_eq_some] at h ⊢
  obtain ⟨hn, hl⟩ := h
  have := (List.getElem?_eq_some_iff.mp hl).1
  exact ⟨by simpa using hn, by simp [this]⟩

/-- In a state whose lists have their lengths every index below the count names an entry. -/
theorem cmpAt_isSome {s : State} {k : Nat} (h : LengthsOk s) (hk : k < s.cfg.nCmp) : ∃ c, cmpAt s k = some c := by
  have : k < s.timer.cmp.length := h.1 ▸ hk
  exact ⟨s.timer.cmp[k], cmpAt_eq_some.mpr ⟨hk, List.getElem?_eq_getElem this⟩⟩

theorem chanAt_isSome {s : State} {n : Nat} (h : LengthsOk s) (hn : n < s.cfg.nDmaCh) : ∃ c, chanAt s n = some c := by
  have : n < s.dma.ch.length := h.2.1 ▸ hn
  exact ⟨s.dma.ch[n], chanAt_eq_some.mpr ⟨hn, List.getElem?_eq_getElem this⟩⟩

theorem prioAt_isSome {s : State} {n : Nat} (h : LengthsOk s) (hn : n < s.cfg.nIrqSrc) : ∃ p, prioAt s n = some p := by
  have : n < s.intc.prio.length := h.2.2 ▸ hn
  exact ⟨s.intc.prio[n], prioAt_eq_some.mpr ⟨hn, List.getElem?_eq_getElem this⟩⟩

theorem cmpAt_none {s : State} {k : Nat} (h : s.cfg.nCmp ≤ k) : cmpAt s k = none := by
  unfold cmpAt; rw [if_neg (by omega)]

theorem chanAt_none {s : State} {n : Nat} (h : s.cfg.nDmaCh ≤ n) : chanAt s n = none := by
  unfold chanAt; rw [if_neg (by omega)]

theorem prioAt_none {s : State} {n : Nat} (h : s.cfg.nIrqSrc ≤ n) : prioAt s n = none := by
  unfold prioAt; rw [if_neg (by omega)]

/-! ## DMA -/

/-- What `DCH.TRIGGER` does, once (R265, R266, R97). -/
theorem dchTrigger_cases (n : Nat) (c : DmaChannel) (s : State) :
    ((c.enabled = false ∨ c.count = 0) ∧ dchTrigger n c s = .next s) ∨
    (c.enabled = true ∧ c.count ≠ 0 ∧ touchesWindow s.cfg c.src c.dst c.count = true ∧
      dchTrigger n c s = .refused .dmaTouchesWindow) ∨
    (c.enabled = true ∧ c.count ≠ 0 ∧ touchesWindow s.cfg c.src c.dst c.count = false ∧
      dchTrigger n c s = .next (updateInterrupts .dma (dmaTransfer n c s))) := by
  have hb : (!c.enabled || c.count == 0) = true ↔ c.enabled = false ∨ c.count = 0 := by simp
  unfold dchTrigger
  split
  · rename_i h
    exact .inl ⟨hb.mp h, rfl⟩
  · rename_i h
    rw [hb, not_or, Bool.not_eq_false] at h
    split
    · rename_i ht
      exact .inr (.inl ⟨h.1, h.2, ht, rfl⟩)
    · rename_i ht
      exact .inr (.inr ⟨h.1, h.2, Bool.not_eq_true _ ▸ ht, rfl⟩)

/-- What `DMA.REQUEST` does, once (R268). -/
theorem dmaRequest_cases (n : Nat) (s : State) :
    (chanAt s n = none ∧ dmaRequest n s = .next (warn (.badChannel n) s)) ∨
    (∃ c, chanAt s n = some c ∧ s.dma.en = false ∧ dmaRequest n s = .next s) ∨
    (∃ c, chanAt s n = some c ∧ s.dma.en = true ∧ dmaRequest n s = dchTrigger n c s) := by
  unfold dmaRequest
  cases hc : chanAt s n <;> cases he : s.dma.en <;> simp

@[simp] theorem dmaTransfer_cfg (n : Nat) (c : DmaChannel) (s : State) : (dmaTransfer n c s).cfg = s.cfg := by
  unfold dmaTransfer; split <;> rfl
@[simp] theorem dmaTransfer_mem (n : Nat) (c : DmaChannel) (s : State) :
    (dmaTransfer n c s).mem = memCopy s.mem c.src c.dst c.count := by
  unfold dmaTransfer; split <;> rfl
@[simp] theorem dmaTransfer_trace (n : Nat) (c : DmaChannel) (s : State) :
    (dmaTransfer n c s).trace = s.trace ++ [.memcopy c.src c.dst c.count] := by
  unfold dmaTransfer; split <;> rfl
theorem dmaTransfer_dma (n : Nat) (c : DmaChannel) (s : State) :
    (dmaTransfer n c s).dma = if c.ie then { s.dma with ch := s.dma.ch.set n { c with pending := true } } else s.dma := by
  unfold dmaTransfer; split <;> rfl

/-! ## Timer -/

theorem tchTick_idle {t : Timer} (a : Bool) (h : t.running = false) : tchTick a t = t := by simp [tchTick, h]

/-- A tick of a running channel inside the prescale dwell (R226). -/
theorem tchCount_dwell {t : Timer} (a : Bool) (h : t.prescCnt + 1 < t.prescaler.toNat) :
    tchCount a t = { t with prescCnt := t.prescCnt + 1 } := by
  unfold tchCount; rw [if_neg (by omega)]

/-- A tick of a running channel that advances the value (R226). -/
theorem tchCount_advance {t : Timer} (a : Bool) (h : t.prescaler.toNat ≤ t.prescCnt + 1) :
    tchCount a t = tchAdvance a { t with prescCnt := 0 } := by
  unfold tchCount; rw [if_pos h]

@[simp] theorem cmpEval_target (a : Bool) (v : Word) (c : Cmp) : (cmpEval a v c).target = c.target := by
  unfold cmpEval; split
  · split <;> rfl
  · rfl

@[simp] theorem rearm_length (a : Bool) (cs : List Cmp) : (rearm a cs).length = cs.length := by
  unfold rearm; split <;> simp

/-! ## Reset pieces -/

/-- `RB.RESET` touches the cells of its window alone (R152). -/
theorem rbReset_frame (w : Window) (s : State) :
    OnlyWindow w s (rbReset w s) ∧ MemSame s (rbReset w s) ∧ lineOf w (rbReset w s) = lineOf w s ∧
      (rbReset w s).trace = s.trace := by
  refine ⟨⟨by cases w <;> rfl, by cases w <;> rfl, fun x hx => ⟨?_, ?_⟩⟩, fun a => by cases w <;> rfl,
    by cases w <;> rfl, by cases w <;> rfl⟩
  · cases w <;> cases x <;> first | rfl | exact absurd rfl hx
  · cases w <;> cases x <;> rfl

end Sys2Proof.Machine
end

