-- ==== Sys2Proof/Laws/PerInstr.lean ====
section
/-! SUPPORT. Statements about every instruction, one lemma per constructor. `TableRow`: the key of an encoded well-formed stimulus fits a row of spec/opcode_table.json under the row's mask; the masks and matches below are copied from the table. -/

namespace Sys2Proof.Laws

/-- The rows of spec/opcode_table.json that bear an instruction's mnemonic: mask and match. -/
def tableRows : Instr → List (BitVec 20 × BitVec 20)
  | .rdGpioData => [(0xFFFFF, 0x00000)]
  | .wrGpioData _ => [(0xFFFFF, 0x01000)]
  | .rdGpioDir => [(0xFFFFF, 0x00004)]
  | .wrGpioDir _ => [(0xFFFFF, 0x01004)]
  | .rdGpioIe => [(0xFFFFF, 0x00008)]
  | .wrGpioIe _ => [(0xFFFFF, 0x01008)]
  | .rdGpioIs => [(0xFFFFF, 0x0000C)]
  | .wrGpioIs _ => [(0xFFFFF, 0x0100C)]
  | .rdGpioIt => [(0xFFFFF, 0x00010)]
  | .wrGpioIt _ => [(0xFFFFF, 0x01010)]
  | .rdGpioIp => [(0xFFFFF, 0x00014)]
  | .wrGpioIp _ => [(0xFFFFF, 0x01014)]
  | .rdGpioEdge => [(0xFFFFF, 0x00018)]
  | .wrGpioEdge _ => [(0xFFFFF, 0x01018)]
  | .evGpioPin _ _ => [(0xFFFFF, 0x02001)]
  | .evGpioReset => [(0xFFFFF, 0x02000)]
  | .rdUartData => [(0xFFFFF, 0x10000)]
  | .wrUartData _ => [(0xFFFFF, 0x11000)]
  | .rdUartStatus => [(0xFFFFF, 0x10004)]
  | .wrUartStatus _ => [(0xFFFFF, 0x11004)]
  | .rdUartControl => [(0xFFFFF, 0x10008)]
  | .wrUartControl _ => [(0xFFFFF, 0x11008)]
  | .rdUartBaud => [(0xFFFFF, 0x1000C)]
  | .wrUartBaud _ => [(0xFFFFF, 0x1100C)]
  | .evUartRxChar _ => [(0xFFFFF, 0x12001)]
  | .evUartReset => [(0xFFFFF, 0x12000)]
  | .rdUart16550Rbr => [(0xFFFFF, 0x20000)]
  | .wrUart16550Thr _ => [(0xFFFFF, 0x21000)]
  | .rdUart16550Dll => [(0xFFFFF, 0x20000)]
  | .wrUart16550Dll _ => [(0xFFFFF, 0x21000)]
  | .rdUart16550Ier => [(0xFFFFF, 0x20004)]
  | .wrUart16550Ier _ => [(0xFFFFF, 0x21004)]
  | .rdUart16550Dlh => [(0xFFFFF, 0x20004)]
  | .wrUart16550Dlh _ => [(0xFFFFF, 0x21004)]
  | .rdUart16550Iir => [(0xFFFFF, 0x20008)]
  | .wrUart16550Fcr _ => [(0xFFFFF, 0x21008)]
  | .rdUart16550Lcr => [(0xFFFFF, 0x2000C)]
  | .wrUart16550Lcr _ => [(0xFFFFF, 0x2100C)]
  | .rdUart16550Lsr => [(0xFFFFF, 0x20014)]
  | .wrUart16550Lsr _ => [(0xFFFFF, 0x21014)]
  | .evUart16550RxChar _ => [(0xFFFFF, 0x22001)]
  | .evUart16550SetMap _ => [(0xFFFFF, 0x22002)]
  | .evUart16550Reset => [(0xFFFFF, 0x22000)]
  | .rdSpiControl => [(0xFFFFF, 0x30000)]
  | .wrSpiControl _ => [(0xFFFFF, 0x31000)]
  | .rdSpiData => [(0xFFFFF, 0x30004)]
  | .wrSpiData _ => [(0xFFFFF, 0x31004)]
  | .rdSpiStatus => [(0xFFFFF, 0x30008)]
  | .wrSpiStatus _ => [(0xFFFFF, 0x31008)]
  | .evSpiRxChar _ => [(0xFFFFF, 0x32001)]
  | .evSpiReset => [(0xFFFFF, 0x32000)]
  | .rdI2cControl => [(0xFFFFF, 0x40000)]
  | .wrI2cControl _ => [(0xFFFFF, 0x41000)]
  | .rdI2cData => [(0xFFFFF, 0x40004)]
  | .wrI2cData _ => [(0xFFFFF, 0x41004)]
  | .rdI2cStatus => [(0xFFFFF, 0x40008)]
  | .wrI2cStatus _ => [(0xFFFFF, 0x41008)]
  | .rdI2cClockDiv => [(0xFFFFF, 0x4000C)]
  | .wrI2cClockDiv _ => [(0xFFFFF, 0x4100C)]
  | .evI2cRxChar _ => [(0xFFFFF, 0x42001)]
  | .evI2cReset => [(0xFFFFF, 0x42000)]
  | .rdTimerControl => [(0xFFFFF, 0x50000)]
  | .wrTimerControl _ => [(0xFFFFF, 0x51000)]
  | .rdTimerValue => [(0xFFFFF, 0x50004)]
  | .wrTimerValue _ => [(0xFFFFF, 0x51004)]
  | .rdTimerReload => [(0xFFFFF, 0x50008)]
  | .wrTimerReload _ => [(0xFFFFF, 0x51008)]
  | .rdTimerPrescaler => [(0xFFFFF, 0x5000C)]
  | .wrTimerPrescaler _ => [(0xFFFFF, 0x5100C)]
  | .rdTimerStatus => [(0xFFFFF, 0x50010)]
  | .wrTimerStatus _ => [(0xFFFFF, 0x51010)]
  | .rdTimerCmpTarget _ => [(0xFFFEF, 0x50020), (0xFFFCF, 0x50040), (0xFFF8F, 0x50080)]
  | .wrTimerCmpTarget _ _ => [(0xFFFEF, 0x51020), (0xFFFCF, 0x51040), (0xFFF8F, 0x51080)]
  | .rdTimerCmpCtrl _ => [(0xFFFEF, 0x50024), (0xFFFCF, 0x50044), (0xFFF8F, 0x50084)]
  | .wrTimerCmpCtrl _ _ => [(0xFFFEF, 0x51024), (0xFFFCF, 0x51044), (0xFFF8F, 0x51084)]
  | .evTimerTick => [(0xFFFFF, 0x52001)]
  | .evTimerReset => [(0xFFFFF, 0x52000)]
  | .rdDmaControl => [(0xFFFFF, 0x60000)]
  | .wrDmaControl _ => [(0xFFFFF, 0x61000)]
  | .rdDmaChSrc _ => [(0xFFF1F, 0x60100)]
  | .wrDmaChSrc _ _ => [(0xFFF1F, 0x61100)]
  | .rdDmaChDst _ => [(0xFFF1F, 0x60104)]
  | .wrDmaChDst _ _ => [(0xFFF1F, 0x61104)]
  | .rdDmaChCount _ => [(0xFFF1F, 0x60108)]
  | .wrDmaChCount _ _ => [(0xFFF1F, 0x61108)]
  | .rdDmaChCtrl _ => [(0xFFF1F, 0x6010C)]
  | .wrDmaChCtrl _ _ => [(0xFFF1F, 0x6110C)]
  | .evDmaReq _ => [(0xFFFFF, 0x62001)]
  | .evDmaReset => [(0xFFFFF, 0x62000)]
  | .rdIntcEnable => [(0xFFFFF, 0x70000)]
  | .wrIntcEnable _ => [(0xFFFFF, 0x71000)]
  | .rdIntcPending => [(0xFFFFF, 0x70004)]
  | .wrIntcPending _ => [(0xFFFFF, 0x71004)]
  | .rdIntcPriority _ => [(0xFFF83, 0x70100)]
  | .wrIntcPriority _ _ => [(0xFFF83, 0x71100)]
  | .evIntcSrc _ _ => [(0xFFFFF, 0x72001)]
  | .evIntcReset => [(0xFFFFF, 0x72000)]
  | .opRbRead _ _ => [(0xFFFFF, 0xF3001)]
  | .opRbWrite _ _ _ => [(0xFFFFF, 0xF3002)]
  | .opRbReset _ => [(0xFFFFF, 0xF3003)]
  | .opRbDefine _ => [(0xFFFFF, 0xF3004)]
  | .opFifoPush _ _ => [(0xFFFFF, 0xF3010)]
  | .opFifoPop _ => [(0xFFFFF, 0xF3011)]
  | .opFifoCount _ => [(0xFFFFF, 0xF3012)]
  | .opFifoIsFull _ => [(0xFFFFF, 0xF3013)]
  | .opFifoIsEmpty _ => [(0xFFFFF, 0xF3014)]
  | .opFifoClear _ => [(0xFFFFF, 0xF3015)]
  | .opLineSet _ _ => [(0xFFFFF, 0xF3020)]
  | .opAggOr _ _ => [(0xFFFFF, 0xF3021)]
  | .opAggPrio _ _ => [(0xFFFFF, 0xF3022)]
  | .opAggSnapshot _ => [(0xFFFFF, 0xF3023)]
  | .opTchTick => [(0xFFFFF, 0xF3030)]
  | .opTchStart => [(0xFFFFF, 0xF3031)]
  | .opTchStop => [(0xFFFFF, 0xF3032)]
  | .opCmpEval _ => [(0xFFFFF, 0xF3033)]
  | .opDchConfigure _ _ _ _ => [(0xFFFFF, 0xF3040)]
  | .opDchSetEnabled _ _ => [(0xFFFFF, 0xF3041)]
  | .opDchTrigger _ => [(0xFFFFF, 0xF3042)]
  | .opDmaRequest _ => [(0xFFFFF, 0xF3043)]
  | .opSerDataWrite _ _ => [(0xFFFFF, 0xF3050)]
  | .opSerDataRead _ => [(0xFFFFF, 0xF3051)]
  | .opSerRxChar _ _ => [(0xFFFFF, 0xF3052)]
  | .opSerDrain _ => [(0xFFFFF, 0xF3053)]

namespace TableRow

/-- The encoded key fits one of the instruction's rows. -/
def Statement (i : Instr) : Prop := i.wf = true → ∃ r ∈ tableRows i, (encode i).key &&& r.1 = r.2

/-- An instruction with one row. -/
theorem of_row {i : Instr} {r : BitVec 20 × BitVec 20} (hr : tableRows i = [r]) (h : (encode i).key &&& r.1 = r.2) :
    Statement i := fun _ => ⟨r, by rw [hr]; exact List.mem_singleton.mpr rfl, h⟩

theorem rdGpioData : Statement .rdGpioData := of_row rfl (by show keyOf _ _ _ &&& _ = _; decide)
theorem wrGpioData (v : Word) : Statement (.wrGpioData v) := of_row rfl (by show keyOf _ _ _ &&& _ = _; decide)
theorem rdGpioDir : Statement .rdGpioDir := of_row rfl (by show keyOf _ _ _ &&& _ = _; decide)
theorem wrGpioDir (v : Word) : Statement (.wrGpioDir v) := of_row rfl (by show keyOf _ _ _ &&& _ = _; decide)
theorem rdGpioIe : Statement .rdGpioIe := of_row rfl (by show keyOf _ _ _ &&& _ = _; decide)
theorem wrGpioIe (v : Word) : Statement (.wrGpioIe v) := of_row rfl (by show keyOf _ _ _ &&& _ = _; decide)
theorem rdGpioIs : Statement .rdGpioIs := of_row rfl (by show keyOf _ _ _ &&& _ = _; decide)
theorem wrGpioIs (v : Word) : Statement (.wrGpioIs v) := of_row rfl (by show keyOf _ _ _ &&& _ = _; decide)
theorem rdGpioIt : Statement .rdGpioIt := of_row rfl (by show keyOf _ _ _ &&& _ = _; decide)
theorem wrGpioIt (v : Word) : Statement (.wrGpioIt v) := of_row rfl (by show keyOf _ _ _ &&& _ = _; decide)
theorem rdGpioIp : Statement .rdGpioIp := of_row rfl (by show keyOf _ _ _ &&& _ = _; decide)
theorem wrGpioIp (v : Word) : Statement (.wrGpioIp v) := of_row rfl (by show keyOf _ _ _ &&& _ = _; decide)
theorem rdGpioEdge : Statement .rdGpioEdge := of_row rfl (by show keyOf _ _ _ &&& _ = _; decide)
theorem wrGpioEdge (v : Word) : Statement (.wrGpioEdge v) := of_row rfl (by show keyOf _ _ _ &&& _ = _; decide)
theorem evGpioPin (pin : BitVec 16) (level : Bool) : Statement (.evGpioPin pin level) := of_row rfl (by show keyOf _ _ _ &&& _ = _; decide)
theorem evGpioReset : Statement .evGpioReset := of_row rfl (by show keyOf _ _ _ &&& _ = _; decide)
theorem rdUartData : Statement .rdUartData := of_row rfl (by show keyOf _ _ _ &&& _ = _; decide)
theorem wrUartData (v : Word) : Statement (.wrUartData v) := of_row rfl (by show keyOf _ _ _ &&& _ = _; decide)
theorem rdUartStatus : Statement .rdUartStatus := of_row rfl (by show keyOf _ _ _ &&& _ = _; decide)
theorem wrUartStatus (v : Word) : Statement (.wrUartStatus v) := of_row rfl (by show keyOf _ _ _ &&& _ = _; decide)
theorem rdUartControl : Statement .rdUartControl := of_row rfl (by show keyOf _ _ _ &&& _ = _; decide)
theorem wrUartControl (v : Word) : Statement (.wrUartControl v) := of_row rfl (by show keyOf _ _ _ &&& _ = _; decide)
theorem rdUartBaud : Statement .rdUartBaud := of_row rfl (by show keyOf _ _ _ &&& _ = _; decide)
theorem wrUartBaud (v : Word) : Statement (.wrUartBaud v) := of_row rfl (by show keyOf _ _ _ &&& _ = _; decide)
theorem evUartRxChar (b : Byte) : Statement (.evUartRxChar b) := of_row rfl (by show keyOf _ _ _ &&& _ = _; decide)
theorem evUartReset : Statement .evUartReset := of_row rfl (by show keyOf _ _ _ &&& _ = _; decide)
theorem rdUart16550Rbr : Statement .rdUart16550Rbr := of_row rfl (by show keyOf _ _ _ &&& _ = _; decide)
theorem wrUart16550Thr (v : Word) : Statement (.wrUart16550Thr v) := of_row rfl (by show keyOf _ _ _ &&& _ = _; decide)
theorem rdUart16550Dll : Statement .rdUart16550Dll := of_row rfl (by show keyOf _ _ _ &&& _ = _; decide)
theorem wrUart16550Dll (v : Word) : Statement (.wrUart16550Dll v) := of_row rfl (by show keyOf _ _ _ &&& _ = _; decide)
theorem rdUart16550Ier : Statement .rdUart16550Ier := of_row rfl (by show keyOf _ _ _ &&& _ = _; decide)
theorem wrUart16550Ier (v : Word) : Statement (.wrUart16550Ier v) := of_row rfl (by show keyOf _ _ _ &&& _ = _; decide)
theorem rdUart16550Dlh : Statement .rdUart16550Dlh := of_row rfl (by show keyOf _ _ _ &&& _ = _; decide)
theorem wrUart16550Dlh (v : Word) : Statement (.wrUart16550Dlh v) := of_row rfl (by show keyOf _ _ _ &&& _ = _; decide)
theorem rdUart16550Iir : Statement .rdUart16550Iir := of_row rfl (by show keyOf _ _ _ &&& _ = _; decide)
theorem wrUart16550Fcr (v : Word) : Statement (.wrUart16550Fcr v) := of_row rfl (by show keyOf _ _ _ &&& _ = _; decide)
theorem rdUart16550Lcr : Statement .rdUart16550Lcr := of_row rfl (by show keyOf _ _ _ &&& _ = _; decide)
theorem wrUart16550Lcr (v : Word) : Statement (.wrUart16550Lcr v) := of_row rfl (by show keyOf _ _ _ &&& _ = _; decide)
theorem rdUart16550Lsr : Statement .rdUart16550Lsr := of_row rfl (by show keyOf _ _ _ &&& _ = _; decide)
theorem wrUart16550Lsr (v : Word) : Statement (.wrUart16550Lsr v) := of_row rfl (by show keyOf _ _ _ &&& _ = _; decide)
theorem evUart16550RxChar (b : Byte) : Statement (.evUart16550RxChar b) := of_row rfl (by show keyOf _ _ _ &&& _ = _; decide)
theorem evUart16550SetMap (sel : Bool) : Statement (.evUart16550SetMap sel) := of_row rfl (by show keyOf _ _ _ &&& _ = _; decide)
theorem evUart16550Reset : Statement .evUart16550Reset := of_row rfl (by show keyOf _ _ _ &&& _ = _; decide)
theorem rdSpiControl : Statement .rdSpiControl := of_row rfl (by show keyOf _ _ _ &&& _ = _; decide)
theorem wrSpiControl (v : Word) : Statement (.wrSpiControl v) := of_row rfl (by show keyOf _ _ _ &&& _ = _; decide)
theorem rdSpiData : Statement .rdSpiData := of_row rfl (by show keyOf _ _ _ &&& _ = _; decide)
theorem wrSpiData (v : Word) : Statement (.wrSpiData v) := of_row rfl (by show keyOf _ _ _ &&& _ = _; decide)
theorem rdSpiStatus : Statement .rdSpiStatus := of_row rfl (by show keyOf _ _ _ &&& _ = _; decide)
theorem wrSpiStatus (v : Word) : Statement (.wrSpiStatus v) := of_row rfl (by show keyOf _ _ _ &&& _ = _; decide)
theorem evSpiRxChar (b : Byte) : Statement (.evSpiRxChar b) := of_row rfl (by show keyOf _ _ _ &&& _ = _; decide)
theorem evSpiReset : Statement .evSpiReset := of_row rfl (by show keyOf _ _ _ &&& _ = _; decide)
theorem rdI2cControl : Statement .rdI2cControl := of_row rfl (by show keyOf _ _ _ &&& _ = _; decide)
theorem wrI2cControl (v : Word) : Statement (.wrI2cControl v) := of_row rfl (by show keyOf _ _ _ &&& _ = _; decide)
theorem rdI2cData : Statement .rdI2cData := of_row rfl (by show keyOf _ _ _ &&& _ = _; decide)
theorem wrI2cData (v : Word) : Statement (.wrI2cData v) := of_row rfl (by show keyOf _ _ _ &&& _ = _; decide)
theorem rdI2cStatus : Statement .rdI2cStatus := of_row rfl (by show keyOf _ _ _ &&& _ = _; decide)
theorem wrI2cStatus (v : Word) : Statement (.wrI2cStatus v) := of_row rfl (by show keyOf _ _ _ &&& _ = _; decide)
theorem rdI2cClockDiv : Statement .rdI2cClockDiv := of_row rfl (by show keyOf _ _ _ &&& _ = _; decide)
theorem wrI2cClockDiv (v : Word) : Statement (.wrI2cClockDiv v) := of_row rfl (by show keyOf _ _ _ &&& _ = _; decide)
theorem evI2cRxChar (b : Byte) : Statement (.evI2cRxChar b) := of_row rfl (by show keyOf _ _ _ &&& _ = _; decide)
theorem evI2cReset : Statement .evI2cReset := of_row rfl (by show keyOf _ _ _ &&& _ = _; decide)
theorem rdTimerControl : Statement .rdTimerControl := of_row rfl (by show keyOf _ _ _ &&& _ = _; decide)
theorem wrTimerControl (v : Word) : Statement (.wrTimerControl v) := of_row rfl (by show keyOf _ _ _ &&& _ = _; decide)
theorem rdTimerValue : Statement .rdTimerValue := of_row rfl (by show keyOf _ _ _ &&& _ = _; decide)
theorem wrTimerValue (v : Word) : Statement (.wrTimerValue v) := of_row rfl (by show keyOf _ _ _ &&& _ = _; decide)
theorem rdTimerReload : Statement .rdTimerReload := of_row rfl (by show keyOf _ _ _ &&& _ = _; decide)
theorem wrTimerReload (v : Word) : Statement (.wrTimerReload v) := of_row rfl (by show keyOf _ _ _ &&& _ = _; decide)
theorem rdTimerPrescaler : Statement .rdTimerPrescaler := of_row rfl (by show keyOf _ _ _ &&& _ = _; decide)
theorem wrTimerPrescaler (v : Word) : Statement (.wrTimerPrescaler v) := of_row rfl (by show keyOf _ _ _ &&& _ = _; decide)
theorem rdTimerStatus : Statement .rdTimerStatus := of_row rfl (by show keyOf _ _ _ &&& _ = _; decide)
theorem wrTimerStatus (v : Word) : Statement (.wrTimerStatus v) := of_row rfl (by show keyOf _ _ _ &&& _ = _; decide)
theorem rdTimerCmpTarget (k : BitVec 4) : Statement (.rdTimerCmpTarget k) :=
  fun hk => by
    have h : ∀ k : BitVec 4, k.toNat < 14 → ∃ r ∈ ([(0xFFFEF, 0x50020), (0xFFFCF, 0x50040), (0xFFF8F, 0x50080)] : List (BitVec 20 × BitVec 20)),
        keyOf 5 0 (cmpOffset k 0x0) &&& r.1 = r.2 := by decide
    exact h k (by simpa [Instr.wf] using hk)
theorem wrTimerCmpTarget (k : BitVec 4) (v : Word) : Statement (.wrTimerCmpTarget k v) :=
  fun hk => by
    have h : ∀ k : BitVec 4, k.toNat < 14 → ∃ r ∈ ([(0xFFFEF, 0x51020), (0xFFFCF, 0x51040), (0xFFF8F, 0x51080)] : List (BitVec 20 × BitVec 20)),
        keyOf 5 1 (cmpOffset k 0x0) &&& r.1 = r.2 := by decide
    exact h k (by simpa [Instr.wf] using hk)
theorem rdTimerCmpCtrl (k : BitVec 4) : Statement (.rdTimerCmpCtrl k) :=
  fun hk => by
    have h : ∀ k : BitVec 4, k.toNat < 14 → ∃ r ∈ ([(0xFFFEF, 0x50024), (0xFFFCF, 0x50044), (0xFFF8F, 0x50084)] : List (BitVec 20 × BitVec 20)),
        keyOf 5 0 (cmpOffset k 0x4) &&& r.1 = r.2 := by decide
    exact h k (by simpa [Instr.wf] using hk)
theorem wrTimerCmpCtrl (k : BitVec 4) (v : Word) : Statement (.wrTimerCmpCtrl k v) :=
  fun hk => by
    have h : ∀ k : BitVec 4, k.toNat < 14 → ∃ r ∈ ([(0xFFFEF, 0x51024), (0xFFFCF, 0x51044), (0xFFF8F, 0x51084)] : List (BitVec 20 × BitVec 20)),
        keyOf 5 1 (cmpOffset k 0x4) &&& r.1 = r.2 := by decide
    exact h k (by simpa [Instr.wf] using hk)
theorem evTimerTick : Statement .evTimerTick := of_row rfl (by show keyOf _ _ _ &&& _ = _; decide)
theorem evTimerReset : Statement .evTimerReset := of_row rfl (by show keyOf _ _ _ &&& _ = _; decide)
theorem rdDmaControl : Statement .rdDmaControl := of_row rfl (by show keyOf _ _ _ &&& _ = _; decide)
theorem wrDmaControl (v : Word) : Statement (.wrDmaControl v) := of_row rfl (by show keyOf _ _ _ &&& _ = _; decide)
theorem rdDmaChSrc (n : BitVec 3) : Statement (.rdDmaChSrc n) := of_row rfl (by show keyOf _ _ _ &&& _ = _; revert n; decide)
theorem wrDmaChSrc (n : BitVec 3) (v : Word) : Statement (.wrDmaChSrc n v) := of_row rfl (by show keyOf _ _ _ &&& _ = _; revert n; decide)
theorem rdDmaChDst (n : BitVec 3) : Statement (.rdDmaChDst n) := of_row rfl (by show keyOf _ _ _ &&& _ = _; revert n; decide)
theorem wrDmaChDst (n : BitVec 3) (v : Word) : Statement (.wrDmaChDst n v) := of_row rfl (by show keyOf _ _ _ &&& _ = _; revert n; decide)
theorem rdDmaChCount (n : BitVec 3) : Statement (.rdDmaChCount n) := of_row rfl (by show keyOf _ _ _ &&& _ = _; revert n; decide)
theorem wrDmaChCount (n : BitVec 3) (v : Word) : Statement (.wrDmaChCount n v) := of_row rfl (by show keyOf _ _ _ &&& _ = _; revert n; decide)
theorem rdDmaChCtrl (n : BitVec 3) : Statement (.rdDmaChCtrl n) := of_row rfl (by show keyOf _ _ _ &&& _ = _; revert n; decide)
theorem wrDmaChCtrl (n : BitVec 3) (v : Word) : Statement (.wrDmaChCtrl n v) := of_row rfl (by show keyOf _ _ _ &&& _ = _; revert n; decide)
theorem evDmaReq (ch : BitVec 16) : Statement (.evDmaReq ch) := of_row rfl (by show keyOf _ _ _ &&& _ = _; decide)
theorem evDmaReset : Statement .evDmaReset := of_row rfl (by show keyOf _ _ _ &&& _ = _; decide)
theorem rdIntcEnable : Statement .rdIntcEnable := of_row rfl (by show keyOf _ _ _ &&& _ = _; decide)
theorem wrIntcEnable (v : Word) : Statement (.wrIntcEnable v) := of_row rfl (by show keyOf _ _ _ &&& _ = _; decide)
theorem rdIntcPending : Statement .rdIntcPending := of_row rfl (by show keyOf _ _ _ &&& _ = _; decide)
theorem wrIntcPending (v : Word) : Statement (.wrIntcPending v) := of_row rfl (by show keyOf _ _ _ &&& _ = _; decide)
theorem rdIntcPriority (n : BitVec 5) : Statement (.rdIntcPriority n) := of_row rfl (by show keyOf _ _ _ &&& _ = _; revert n; decide)
theorem wrIntcPriority (n : BitVec 5) (v : Word) : Statement (.wrIntcPriority n v) := of_row rfl (by show keyOf _ _ _ &&& _ = _; revert n; decide)
theorem evIntcSrc (src : BitVec 16) (level : Bool) : Statement (.evIntcSrc src level) := of_row rfl (by show keyOf _ _ _ &&& _ = _; decide)
theorem evIntcReset : Statement .evIntcReset := of_row rfl (by show keyOf _ _ _ &&& _ = _; decide)
theorem opRbRead (bank : Window) (off : Word) : Statement (.opRbRead bank off) := of_row rfl (by show keyOf _ _ _ &&& _ = _; decide)
theorem opRbWrite (bank : Window) (off : Word) (v : Word) : Statement (.opRbWrite bank off v) := of_row rfl (by show keyOf _ _ _ &&& _ = _; decide)
theorem opRbReset (bank : Window) : Statement (.opRbReset bank) := of_row rfl (by show keyOf _ _ _ &&& _ = _; decide)
theorem opRbDefine (bank : List RegDesc) : Statement (.opRbDefine bank) := of_row rfl (by show keyOf _ _ _ &&& _ = _; decide)
theorem opFifoPush (q : FifoId) (b : Byte) : Statement (.opFifoPush q b) := of_row rfl (by show keyOf _ _ _ &&& _ = _; decide)
theorem opFifoPop (q : FifoId) : Statement (.opFifoPop q) := of_row rfl (by show keyOf _ _ _ &&& _ = _; decide)
theorem opFifoCount (q : FifoId) : Statement (.opFifoCount q) := of_row rfl (by show keyOf _ _ _ &&& _ = _; decide)
theorem opFifoIsFull (q : FifoId) : Statement (.opFifoIsFull q) := of_row rfl (by show keyOf _ _ _ &&& _ = _; decide)
theorem opFifoIsEmpty (q : FifoId) : Statement (.opFifoIsEmpty q) := of_row rfl (by show keyOf _ _ _ &&& _ = _; decide)
theorem opFifoClear (q : FifoId) : Statement (.opFifoClear q) := of_row rfl (by show keyOf _ _ _ &&& _ = _; decide)
theorem opLineSet (line : Window) (level : Bool) : Statement (.opLineSet line level) := of_row rfl (by show keyOf _ _ _ &&& _ = _; decide)
theorem opAggOr (line : Window) (sources : List Source) : Statement (.opAggOr line sources) := of_row rfl (by show keyOf _ _ _ &&& _ = _; decide)
theorem opAggPrio (line : Window) (sources : List Source) : Statement (.opAggPrio line sources) := of_row rfl (by show keyOf _ _ _ &&& _ = _; decide)
theorem opAggSnapshot (sources : List Source) : Statement (.opAggSnapshot sources) := of_row rfl (by show keyOf _ _ _ &&& _ = _; decide)
theorem opTchTick : Statement .opTchTick := of_row rfl (by show keyOf _ _ _ &&& _ = _; decide)
theorem opTchStart : Statement .opTchStart := of_row rfl (by show keyOf _ _ _ &&& _ = _; decide)
theorem opTchStop : Statement .opTchStop := of_row rfl (by show keyOf _ _ _ &&& _ = _; decide)
theorem opCmpEval (k : BitVec 16) : Statement (.opCmpEval k) := of_row rfl (by show keyOf _ _ _ &&& _ = _; decide)
theorem opDchConfigure (c : BitVec 16) (src : Word) (dst : Word) (count : Word) : Statement (.opDchConfigure c src dst count) := of_row rfl (by show keyOf _ _ _ &&& _ = _; decide)
theorem opDchSetEnabled (c : BitVec 16) (b : Bool) : Statement (.opDchSetEnabled c b) := of_row rfl (by show keyOf _ _ _ &&& _ = _; decide)
theorem opDchTrigger (c : BitVec 16) : Statement (.opDchTrigger c) := of_row rfl (by show keyOf _ _ _ &&& _ = _; decide)
theorem opDmaRequest (n : Word) : Statement (.opDmaRequest n) := of_row rfl (by show keyOf _ _ _ &&& _ = _; decide)
theorem opSerDataWrite (core : Serial) (b : Byte) : Statement (.opSerDataWrite core b) := of_row rfl (by show keyOf _ _ _ &&& _ = _; decide)
theorem opSerDataRead (core : Serial) : Statement (.opSerDataRead core) := of_row rfl (by show keyOf _ _ _ &&& _ = _; decide)
theorem opSerRxChar (core : Serial) (b : Byte) : Statement (.opSerRxChar core b) := of_row rfl (by show keyOf _ _ _ &&& _ = _; decide)
theorem opSerDrain (core : Serial) : Statement (.opSerDrain core) := of_row rfl (by show keyOf _ _ _ &&& _ = _; decide)

end TableRow

end Sys2Proof.Laws
end

