-- ==== Sys2Proof/Tests/Slice0.lean ====
section
/-! SUPPORT. The model's own tests: the well-formedness smoke tests, every constructor decoded from a key written out from R111 to R117, one-step tests with the expected results of spec/95_test_vectors.md (each named in a comment), and a witness for the hypotheses of each statement of Certificates/Slice0/Obligations.lean. -/

namespace Sys2Proof.Tests

open Sys2Proof Sys2Proof.Machine

/-! ## Well-formedness: an ill-formed term for each check, which the check refuses -/

/-- R117: slot 16 does not exist. -/
theorem test_wf_refuses_compare_index_14 :
    (Instr.rdTimerCmpTarget 14).wf = false ∧ (Instr.wrTimerCmpTarget 14 0).wf = false ∧
      (Instr.rdTimerCmpCtrl 15).wf = false ∧ (Instr.wrTimerCmpCtrl 15 0).wf = false ∧
      (Instr.rdTimerCmpTarget 13).wf = true := by decide

/-- R199: at most 32 sources. -/
theorem test_wf_refuses_snapshot_of_33 :
    (Instr.opAggSnapshot (List.replicate 33 ⟨true, true, 0⟩)).wf = false ∧
      (Instr.opAggSnapshot (List.replicate 32 ⟨true, true, 0⟩)).wf = true := by decide

set_option maxRecDepth 20000 in
/-- Log 5: the field count of a Register has 8 bits. -/
theorem test_wf_refuses_256_fields :
    (Instr.opRbDefine [⟨0, true, true, .always, 0, 0, List.replicate 256 ⟨0, 1, .rw, .pure, false, false, 0⟩⟩]).wf = false := by
  decide

/-! ## Decoding: every constructor from a key written out bit by bit (R111 to R114, R117) -/

theorem test_decode_gpio_1 :
    decode false ⟨0x00000, 0, []⟩ = .ok .rdGpioData ∧
    decode false ⟨0x01000, 0xC0FFEE41, []⟩ = .ok (.wrGpioData 0xC0FFEE41) ∧
    decode false ⟨0x00004, 0, []⟩ = .ok .rdGpioDir ∧
    decode false ⟨0x01004, 0xC0FFEE41, []⟩ = .ok (.wrGpioDir 0xC0FFEE41) ∧
    decode false ⟨0x00008, 0, []⟩ = .ok .rdGpioIe ∧
    decode false ⟨0x01008, 0xC0FFEE41, []⟩ = .ok (.wrGpioIe 0xC0FFEE41) ∧
    decode false ⟨0x0000C, 0, []⟩ = .ok .rdGpioIs ∧
    decode false ⟨0x0100C, 0xC0FFEE41, []⟩ = .ok (.wrGpioIs 0xC0FFEE41) := by decide

theorem test_decode_gpio_2 :
    decode false ⟨0x00010, 0, []⟩ = .ok .rdGpioIt ∧
    decode false ⟨0x01010, 0xC0FFEE41, []⟩ = .ok (.wrGpioIt 0xC0FFEE41) ∧
    decode false ⟨0x00014, 0, []⟩ = .ok .rdGpioIp ∧
    decode false ⟨0x01014, 0xC0FFEE41, []⟩ = .ok (.wrGpioIp 0xC0FFEE41) ∧
    decode false ⟨0x00018, 0, []⟩ = .ok .rdGpioEdge ∧
    decode false ⟨0x01018, 0xC0FFEE41, []⟩ = .ok (.wrGpioEdge 0xC0FFEE41) ∧
    decode false ⟨0x02001, 0x00010002, []⟩ = .ok (.evGpioPin 2 true) ∧
    decode false ⟨0x02000, 0, []⟩ = .ok .evGpioReset := by decide

theorem test_decode_uart_1 :
    decode false ⟨0x10000, 0, []⟩ = .ok .rdUartData ∧
    decode false ⟨0x11000, 0xC0FFEE41, []⟩ = .ok (.wrUartData 0xC0FFEE41) ∧
    decode false ⟨0x10004, 0, []⟩ = .ok .rdUartStatus ∧
    decode false ⟨0x11004, 0xC0FFEE41, []⟩ = .ok (.wrUartStatus 0xC0FFEE41) ∧
    decode false ⟨0x10008, 0, []⟩ = .ok .rdUartControl ∧
    decode false ⟨0x11008, 0xC0FFEE41, []⟩ = .ok (.wrUartControl 0xC0FFEE41) ∧
    decode false ⟨0x1000C, 0, []⟩ = .ok .rdUartBaud ∧
    decode false ⟨0x1100C, 0xC0FFEE41, []⟩ = .ok (.wrUartBaud 0xC0FFEE41) := by decide

theorem test_decode_uart_2 :
    decode false ⟨0x12001, 0xABCDEF55, []⟩ = .ok (.evUartRxChar 0x55) ∧
    decode false ⟨0x12000, 0, []⟩ = .ok .evUartReset := by decide

theorem test_decode_uart16550_1 :
    decode false ⟨0x20000, 0, []⟩ = .ok .rdUart16550Rbr ∧
    decode false ⟨0x21000, 0xC0FFEE41, []⟩ = .ok (.wrUart16550Thr 0xC0FFEE41) ∧
    decode true ⟨0x20000, 0, []⟩ = .ok .rdUart16550Dll ∧
    decode true ⟨0x21000, 0xC0FFEE41, []⟩ = .ok (.wrUart16550Dll 0xC0FFEE41) ∧
    decode false ⟨0x20004, 0, []⟩ = .ok .rdUart16550Ier ∧
    decode false ⟨0x21004, 0xC0FFEE41, []⟩ = .ok (.wrUart16550Ier 0xC0FFEE41) ∧
    decode true ⟨0x20004, 0, []⟩ = .ok .rdUart16550Dlh ∧
    decode true ⟨0x21004, 0xC0FFEE41, []⟩ = .ok (.wrUart16550Dlh 0xC0FFEE41) := by decide

theorem test_decode_uart16550_2 :
    decode false ⟨0x20008, 0, []⟩ = .ok .rdUart16550Iir ∧
    decode false ⟨0x21008, 0xC0FFEE41, []⟩ = .ok (.wrUart16550Fcr 0xC0FFEE41) ∧
    decode false ⟨0x2000C, 0, []⟩ = .ok .rdUart16550Lcr ∧
    decode false ⟨0x2100C, 0xC0FFEE41, []⟩ = .ok (.wrUart16550Lcr 0xC0FFEE41) ∧
    decode false ⟨0x20014, 0, []⟩ = .ok .rdUart16550Lsr ∧
    decode false ⟨0x21014, 0xC0FFEE41, []⟩ = .ok (.wrUart16550Lsr 0xC0FFEE41) ∧
    decode false ⟨0x22001, 0x31, []⟩ = .ok (.evUart16550RxChar 0x31) ∧
    decode false ⟨0x22002, 1, []⟩ = .ok (.evUart16550SetMap true) := by decide

theorem test_decode_uart16550_3 :
    decode false ⟨0x22000, 0, []⟩ = .ok .evUart16550Reset := by decide

theorem test_decode_spi :
    decode false ⟨0x30000, 0, []⟩ = .ok .rdSpiControl ∧
    decode false ⟨0x31000, 0xC0FFEE41, []⟩ = .ok (.wrSpiControl 0xC0FFEE41) ∧
    decode false ⟨0x30004, 0, []⟩ = .ok .rdSpiData ∧
    decode false ⟨0x31004, 0xC0FFEE41, []⟩ = .ok (.wrSpiData 0xC0FFEE41) ∧
    decode false ⟨0x30008, 0, []⟩ = .ok .rdSpiStatus ∧
    decode false ⟨0x31008, 0xC0FFEE41, []⟩ = .ok (.wrSpiStatus 0xC0FFEE41) ∧
    decode false ⟨0x32001, 0x22, []⟩ = .ok (.evSpiRxChar 0x22) ∧
    decode false ⟨0x32000, 0, []⟩ = .ok .evSpiReset := by decide

theorem test_decode_i2c_1 :
    decode false ⟨0x40000, 0, []⟩ = .ok .rdI2cControl ∧
    decode false ⟨0x41000, 0xC0FFEE41, []⟩ = .ok (.wrI2cControl 0xC0FFEE41) ∧
    decode false ⟨0x40004, 0, []⟩ = .ok .rdI2cData ∧
    decode false ⟨0x41004, 0xC0FFEE41, []⟩ = .ok (.wrI2cData 0xC0FFEE41) ∧
    decode false ⟨0x40008, 0, []⟩ = .ok .rdI2cStatus ∧
    decode false ⟨0x41008, 0xC0FFEE41, []⟩ = .ok (.wrI2cStatus 0xC0FFEE41) ∧
    decode false ⟨0x4000C, 0, []⟩ = .ok .rdI2cClockDiv ∧
    decode false ⟨0x4100C, 0xC0FFEE41, []⟩ = .ok (.wrI2cClockDiv 0xC0FFEE41) := by decide

theorem test_decode_i2c_2 :
    decode false ⟨0x42001, 0x11, []⟩ = .ok (.evI2cRxChar 0x11) ∧
    decode false ⟨0x42000, 0, []⟩ = .ok .evI2cReset := by decide

theorem test_decode_timer_1 :
    decode false ⟨0x50000, 0, []⟩ = .ok .rdTimerControl ∧
    decode false ⟨0x51000, 0xC0FFEE41, []⟩ = .ok (.wrTimerControl 0xC0FFEE41) ∧
    decode false ⟨0x50004, 0, []⟩ = .ok .rdTimerValue ∧
    decode false ⟨0x51004, 0xC0FFEE41, []⟩ = .ok (.wrTimerValue 0xC0FFEE41) ∧
    decode false ⟨0x50008, 0, []⟩ = .ok .rdTimerReload ∧
    decode false ⟨0x51008, 0xC0FFEE41, []⟩ = .ok (.wrTimerReload 0xC0FFEE41) ∧
    decode false ⟨0x5000C, 0, []⟩ = .ok .rdTimerPrescaler ∧
    decode false ⟨0x5100C, 0xC0FFEE41, []⟩ = .ok (.wrTimerPrescaler 0xC0FFEE41) := by decide

theorem test_decode_timer_2 :
    decode false ⟨0x50010, 0, []⟩ = .ok .rdTimerStatus ∧
    decode false ⟨0x51010, 0xC0FFEE41, []⟩ = .ok (.wrTimerStatus 0xC0FFEE41) ∧
    decode false ⟨0x50030, 0, []⟩ = .ok (.rdTimerCmpTarget 1) ∧
    decode false ⟨0x51030, 0xC0FFEE41, []⟩ = .ok (.wrTimerCmpTarget 1 0xC0FFEE41) ∧
    decode false ⟨0x50034, 0, []⟩ = .ok (.rdTimerCmpCtrl 1) ∧
    decode false ⟨0x51034, 0xC0FFEE41, []⟩ = .ok (.wrTimerCmpCtrl 1 0xC0FFEE41) ∧
    decode false ⟨0x52001, 0, []⟩ = .ok .evTimerTick ∧
    decode false ⟨0x52000, 0, []⟩ = .ok .evTimerReset := by decide

theorem test_decode_dma_1 :
    decode false ⟨0x60000, 0, []⟩ = .ok .rdDmaControl ∧
    decode false ⟨0x61000, 0xC0FFEE41, []⟩ = .ok (.wrDmaControl 0xC0FFEE41) ∧
    decode false ⟨0x60160, 0, []⟩ = .ok (.rdDmaChSrc 3) ∧
    decode false ⟨0x61160, 0xC0FFEE41, []⟩ = .ok (.wrDmaChSrc 3 0xC0FFEE41) ∧
    decode false ⟨0x60164, 0, []⟩ = .ok (.rdDmaChDst 3) ∧
    decode false ⟨0x61164, 0xC0FFEE41, []⟩ = .ok (.wrDmaChDst 3 0xC0FFEE41) ∧
    decode false ⟨0x60168, 0, []⟩ = .ok (.rdDmaChCount 3) ∧
    decode false ⟨0x61168, 0xC0FFEE41, []⟩ = .ok (.wrDmaChCount 3 0xC0FFEE41) := by decide

theorem test_decode_dma_2 :
    decode false ⟨0x6016C, 0, []⟩ = .ok (.rdDmaChCtrl 3) ∧
    decode false ⟨0x6116C, 0xC0FFEE41, []⟩ = .ok (.wrDmaChCtrl 3 0xC0FFEE41) ∧
    decode false ⟨0x62001, 0xFFFF0003, []⟩ = .ok (.evDmaReq 3) ∧
    decode false ⟨0x62000, 0, []⟩ = .ok .evDmaReset := by decide

theorem test_decode_intc :
    decode false ⟨0x70000, 0, []⟩ = .ok .rdIntcEnable ∧
    decode false ⟨0x71000, 0xC0FFEE41, []⟩ = .ok (.wrIntcEnable 0xC0FFEE41) ∧
    decode false ⟨0x70004, 0, []⟩ = .ok .rdIntcPending ∧
    decode false ⟨0x71004, 0xC0FFEE41, []⟩ = .ok (.wrIntcPending 0xC0FFEE41) ∧
    decode false ⟨0x7017C, 0, []⟩ = .ok (.rdIntcPriority 31) ∧
    decode false ⟨0x7117C, 0xC0FFEE41, []⟩ = .ok (.wrIntcPriority 31 0xC0FFEE41) ∧
    decode false ⟨0x72001, 0x0001001F, []⟩ = .ok (.evIntcSrc 31 true) ∧
    decode false ⟨0x72000, 0, []⟩ = .ok .evIntcReset := by decide

theorem test_decode_operations_rb :
    decode false ⟨0xF3001, 5, [0xC]⟩ = .ok (.opRbRead .timer 0xC) ∧
    decode false ⟨0xF3002, 2, [0x1004, 7]⟩ = .ok (.opRbWrite .uart16550 0x1004 7) ∧
    decode false ⟨0xF3003, 7, []⟩ = .ok (.opRbReset .intc) ∧
    decode false ⟨0xF3004, 0, [4, 0x109, 0xF0, 1, 0xF0302, 5]⟩ = .ok (.opRbDefine [⟨4, true, false, .sel1, 0xF0, 1, [⟨2, 3, .w1c, .sideEffect, true, false, 5⟩]⟩]) := by decide

theorem test_decode_operations_fifo :
    decode false ⟨0xF3010, 5, [0x41]⟩ = .ok (.opFifoPush ⟨.spi, .rx⟩ 0x41) ∧
    decode false ⟨0xF3011, 0, []⟩ = .ok (.opFifoPop ⟨.uart, .tx⟩) ∧
    decode false ⟨0xF3012, 1, []⟩ = .ok (.opFifoCount ⟨.uart, .rx⟩) ∧
    decode false ⟨0xF3013, 2, []⟩ = .ok (.opFifoIsFull ⟨.uart16550, .tx⟩) ∧
    decode false ⟨0xF3014, 3, []⟩ = .ok (.opFifoIsEmpty ⟨.uart16550, .rx⟩) ∧
    decode false ⟨0xF3015, 7, []⟩ = .ok (.opFifoClear ⟨.i2c, .rx⟩) := by decide

theorem test_decode_operations_line :
    decode false ⟨0xF3020, 6, [1]⟩ = .ok (.opLineSet .dma true) := by decide

theorem test_decode_operations_agg :
    decode false ⟨0xF3021, 0, [1, 2]⟩ = .ok (.opAggOr .gpio [⟨true, false, 0⟩, ⟨false, true, 0⟩]) ∧
    decode false ⟨0xF3022, 7, [0x703]⟩ = .ok (.opAggPrio .intc [⟨true, true, 7⟩]) ∧
    decode false ⟨0xF3023, 0, [2, 0x901]⟩ = .ok (.opAggSnapshot [⟨false, true, 0⟩, ⟨true, false, 9⟩]) := by decide

theorem test_decode_operations_tch :
    decode false ⟨0xF3030, 0, []⟩ = .ok .opTchTick ∧
    decode false ⟨0xF3031, 0, []⟩ = .ok .opTchStart ∧
    decode false ⟨0xF3032, 0, []⟩ = .ok .opTchStop := by decide

theorem test_decode_operations_cmp :
    decode false ⟨0xF3033, 1, []⟩ = .ok (.opCmpEval 1) := by decide

theorem test_decode_operations_dch :
    decode false ⟨0xF3040, 2, [0x1000, 0x2000, 4]⟩ = .ok (.opDchConfigure 2 0x1000 0x2000 4) ∧
    decode false ⟨0xF3041, 2, [1]⟩ = .ok (.opDchSetEnabled 2 true) ∧
    decode false ⟨0xF3042, 2, []⟩ = .ok (.opDchTrigger 2) := by decide

theorem test_decode_operations_dma :
    decode false ⟨0xF3043, 9, []⟩ = .ok (.opDmaRequest 9) := by decide

theorem test_decode_operations_ser :
    decode false ⟨0xF3050, 2, [0xFFFFFFA5]⟩ = .ok (.opSerDataWrite .spi 0xA5) ∧
    decode false ⟨0xF3051, 3, []⟩ = .ok (.opSerDataRead .i2c) ∧
    decode false ⟨0xF3052, 1, [0xEE]⟩ = .ok (.opSerRxChar .uart16550 0xEE) ∧
    decode false ⟨0xF3053, 0, []⟩ = .ok (.opSerDrain .uart) := by decide

/-- Keys that spell no stimulus (R111, R113, R119 (f)); an offset without a Register is the bank's unmatched access (R94, R119 (a)). -/
theorem test_decode_refuses :
    decode false ⟨0x04000, 0, []⟩ = .error .badClass ∧ decode false ⟨0x80000, 0, []⟩ = .error .badPid ∧
    decode false ⟨0x02002, 0, []⟩ = .error .badEvent ∧ decode false ⟨0xF3016, 0, []⟩ = .error .badOp ∧
    decode false ⟨0xF3004, 0, [4]⟩ = .error .badBank ∧ decode false ⟨0x10002, 0, []⟩ = .ok (.opRbRead .uart 2) ∧
    decode false ⟨0x3100C, 5, []⟩ = .ok (.opRbWrite .spi 0xC 5) := by decide

/-! ## One-step tests -/

/-- What a stimulus makes of a state, where it completes. -/
def after {α : Type} (f : State → α) (i : Instr) (s : State) : Option α :=
  match exec i s with
  | .next t => some (f t)
  | .fault _ => none
  | .refused _ => none

/-- The value returned and the outputs of a stimulus on a state with an empty trace. -/
def seen (i : Instr) (s : State) : Option (Result × List Output) := after (fun t => (t.result, t.trace)) i s

/-- A stimulus that returns nothing and emits nothing. -/
def quiet : Option (Result × List Output) := some (.nothing, [])

/-- A stimulus that returns a word and emits nothing. -/
def reads (v : Word) : Option (Result × List Output) := some (.word v, [])

/-- A stimulus that returns nothing and emits these outputs. -/
def emits (o : List Output) : Option (Result × List Output) := some (.nothing, o)

abbrev R : State := State.reset

/-! ### GPIO (2.9) -/

def gpioWith (g : Gpio) : State := { R with gpio := g }
/-- Pin 2 edge-sensitive, rising, enabled. -/
def pin2 : State := gpioWith { R.gpio with it := 4, ip := 4, ie := 4 }
/-- `is` and `ie` 4, the line asserted. -/
def latched : State := { gpioWith { R.gpio with is := 4, ie := 4 } with lines := { R.lines with gpio := true } }
/-- `N_GPIO = 8`. -/
def eight : State := State.powerOn { Config.default with nGpio := 8 }

/- G1 -/
theorem test_rd_gpio_data :
    seen .rdGpioData (gpioWith { R.gpio with dir := 0x0F, out := 0xA5, inp := 0x3C }) = reads 0x35 := by decide
/- R322: only implemented pins -/
theorem test_wr_gpio_data : after (·.gpio.out) (.wrGpioData 0x1A5) eight = some 0xA5 := by decide
theorem test_rd_gpio_dir : seen .rdGpioDir (gpioWith { R.gpio with dir := 0x0F }) = reads 0x0F := by decide
/- RB12 -/
theorem test_wr_gpio_dir : after (·.gpio.dir) (.wrGpioDir 0xFFFFFFFF) eight = some 0xFF := by decide
/- RB11 -/
theorem test_rd_gpio_ie :
    seen .rdGpioIe latched = reads 4 ∧
    seen .rdGpioIe (State.powerOn { Config.default with gpioExt := false }) = some (.word 0, [.warn (.oorRead 8)]) := by
  decide
/- R326, R200 -/
theorem test_wr_gpio_ie :
    seen (.wrGpioIe 4) (gpioWith { R.gpio with is := 4 }) = emits [.notify .gpio true] ∧
    seen (.wrGpioIe 0) latched = emits [.notify .gpio false] := by decide
theorem test_rd_gpio_is : seen .rdGpioIs latched = reads 4 := by decide
/- G8 -/
theorem test_wr_gpio_is :
    seen (.wrGpioIs 4) latched = emits [.notify .gpio false] ∧ after (·.gpio.is) (.wrGpioIs 4) latched = some 0 ∧
    after (·.gpio.is) (.wrGpioIs 3) latched = some 4 := by decide
theorem test_rd_gpio_it : seen .rdGpioIt pin2 = reads 4 := by decide
theorem test_wr_gpio_it : after (fun t => (t.gpio.it, t.gpio.ip)) (.wrGpioIt 5) R = some (5, 0) := by decide
theorem test_rd_gpio_ip : seen .rdGpioIp pin2 = reads 4 := by decide
theorem test_wr_gpio_ip : after (fun t => (t.gpio.ip, t.gpio.edge)) (.wrGpioIp 5) R = some (5, 0) := by decide
theorem test_rd_gpio_edge : seen .rdGpioEdge (gpioWith { R.gpio with edge := 9 }) = reads 9 := by decide
theorem test_wr_gpio_edge : after (fun t => (t.gpio.edge, t.gpio.it)) (.wrGpioEdge 5) R = some (5, 0) := by decide
/- G2, G7 -/
theorem test_ev_gpio_pin :
    seen (.evGpioPin 2 true) pin2 = emits [.notify .gpio true] ∧
    seen (.evGpioPin 32 true) R = emits [.warn (.badPin 32)] := by decide
/- G4, G6, G9: both edges, active-low level, no GPIO_EXT -/
theorem test_ev_gpio_pin_detection :
    after (·.gpio.is) (.evGpioPin 2 false) (gpioWith { R.gpio with it := 4, edge := 4, inp := 4 }) = some 4 ∧
    after (·.gpio.is) (.evGpioPin 2 false) (gpioWith { R.gpio with it := 4, edge := 4 }) = some 0 ∧
    after (·.gpio.is) (.evGpioPin 7 false) R = some 0x80 ∧
    after (fun t => (t.gpio.inp, t.gpio.is)) (.evGpioPin 1 true) (State.powerOn { Config.default with gpioExt := false }) =
      some (2, 0) := by decide
/- R343 -/
theorem test_ev_gpio_reset :
    seen .evGpioReset latched = emits [.notify .gpio false] ∧ after (·.gpio) .evGpioReset latched = some R.gpio := by decide

/-! ### UART (2.6) -/

def uartWith (p : Port) (v : Word) : State := { R with uart := setUartControl v { R.uart with port := p } }
/-- A block with room for two bytes in each queue, `RejectAndFlag` in the UART. -/
def two : State := State.powerOn { Config.default with fifoCap := 2, ovrUart := .rejectAndFlag }

/- U5, U13 -/
theorem test_rd_uart_data :
    seen .rdUartData R = some (.word 0, [.warn .rxEmpty]) ∧
    seen .rdUartData (uartWith ⟨[], [0x55, 0x66], false⟩ 0x100) = reads 0x55 ∧
    after (·.uart.port.rx) .rdUartData (uartWith ⟨[], [0x55, 0x66], false⟩ 0x100) = some [0x66] := by decide
/- S8, U12, U2 -/
theorem test_wr_uart_data :
    seen (.wrUartData 0xFFFFFF41) (uartWith Port.empty 0x101) = emits [.tx .uart 0x41] ∧
    seen (.wrUartData 0x99) { two with uart := { two.uart with port := ⟨[1, 2], [], false⟩ } } = emits [.warn .txDrop] ∧
    after (·.uart.port.tx) (.wrUartData 0x99) R = some [0x99] := by decide
/- U8 -/
theorem test_rd_uart_status :
    seen .rdUartStatus R = reads 5 ∧
    seen .rdUartStatus { two with uart := { two.uart with port := ⟨[], [1, 2], true⟩ } } = reads 0x19 := by decide
/- RB10, U9 -/
theorem test_wr_uart_status :
    seen (.wrUartStatus 0xF) R = quiet ∧
    seen (.wrUartStatus 0x10) { uartWith ⟨[], [], true⟩ 0x112 with lines := { R.lines with uart := true } } =
      emits [.notify .uart false] := by decide
theorem test_rd_uart_control : seen .rdUartControl R = reads 0x100 := by decide
/- RB9, U3 -/
theorem test_wr_uart_control :
    seen (.wrUartControl 0xFFFFFFFF) R = emits [.notify .uart true] ∧
    seen (.wrUartControl 0x101) (uartWith ⟨[0x41, 0x42], [], false⟩ 0x100) = emits [.tx .uart 0x41, .tx .uart 0x42] := by
  decide
theorem test_rd_uart_baud : seen .rdUartBaud R = reads 1 := by decide
/- S2, U11 -/
theorem test_wr_uart_baud :
    after (·.uart.div) (.wrUartBaud 0xFFFF1234) R = some 0x1234 ∧
    seen (.wrUartBaud 0x10000) R = emits [.warn .zeroDiv] ∧ after (·.uart.div) (.wrUartBaud 0x10000) R = some 1 := by decide
/- U4 -/
theorem test_ev_uart_rxchar :
    seen (.evUartRxChar 0x55) R = quiet ∧ after (·.uart.port.rx) (.evUartRxChar 0x55) R = some [] ∧
    after (·.uart.port.rx) (.evUartRxChar 0x55) (uartWith Port.empty 0x102) = some [0x55] := by decide
/- U8 -/
theorem test_ev_uart_rxchar_overrun :
    seen (.evUartRxChar 0xEE) { two with uart := setUartControl 0x112 { two.uart with port := ⟨[], [1, 2], false⟩ } } =
      emits [.warn .overrun, .notify .uart true] := by decide
/- Z1 -/
theorem test_ev_uart_reset :
    seen .evUartReset { uartWith ⟨[1], [2], false⟩ 0x105 with lines := { R.lines with uart := true } } =
      emits [.notify .uart false] ∧
    after (·.uart) .evUartReset (uartWith ⟨[1], [2], false⟩ 0x105) = some R.uart := by decide

/-! ### UART16550 (2.7) -/

def u16With (u : Uart16550) : State := { R with u16 := u }

/- X5 -/
theorem test_rd_uart16550_rbr :
    seen .rdUart16550Rbr { u16With { R.u16 with port := ⟨[], [0x31, 0x32, 0x33, 0x34], false⟩, erbfi := true, trig := 1 }
      with lines := { R.lines with uart16550 := true } } = some (.word 0x31, [.notify .uart16550 false]) := by decide
/- X7 -/
theorem test_wr_uart16550_thr : seen (.wrUart16550Thr 0x41) R = emits [.tx .uart16550 0x41] := by decide
/- X10, X11 -/
theorem test_rd_uart16550_dll : seen .rdUart16550Dll (u16With { R.u16 with dll := 0x0C, dlh := 1 }) = reads 0x0C := by decide
theorem test_wr_uart16550_dll :
    seen (.wrUart16550Dll 0x10C) R = quiet ∧ after (·.u16.dll) (.wrUart16550Dll 0x10C) R = some 0x0C := by decide
theorem test_rd_uart16550_ier :
    seen .rdUart16550Ier (u16With { R.u16 with erbfi := true, elsi := true }) = reads 5 := by decide
/- X6 -/
theorem test_wr_uart16550_ier : seen (.wrUart16550Ier 2) R = emits [.notify .uart16550 true] := by decide
theorem test_rd_uart16550_dlh : seen .rdUart16550Dlh (u16With { R.u16 with dll := 0x0C, dlh := 1 }) = reads 1 := by decide
theorem test_wr_uart16550_dlh : after (fun t => (t.u16.dll, t.u16.dlh)) (.wrUart16550Dlh 1) R = some (0, 1) := by decide
/- X1, X8 -/
theorem test_rd_uart16550_iir :
    seen .rdUart16550Iir R = reads 1 ∧
    seen .rdUart16550Iir (u16With { R.u16 with port := ⟨[], [1], true⟩, erbfi := true, elsi := true }) = reads 6 := by decide
/- X13, X14 -/
theorem test_wr_uart16550_fcr :
    after (fun t => (t.u16.port, t.u16.trig, t.u16.fifoEn)) (.wrUart16550Fcr 0x83)
      (u16With { R.u16 with port := ⟨[9], [1, 2, 3], true⟩ }) = some (⟨[9], [], true⟩, 2, true) := by decide
theorem test_rd_uart16550_lcr : seen .rdUart16550Lcr (u16With { R.u16 with lcr := 0x80 }) = reads 0x80 := by decide
/- X12 -/
theorem test_wr_uart16550_lcr :
    after (fun t => (t.u16.lcr, t.u16.mapSel)) (.wrUart16550Lcr 0x180) R = some (0x80, false) := by decide
/- X9 -/
theorem test_rd_uart16550_lsr :
    seen .rdUart16550Lsr { u16With { R.u16 with port := ⟨[], [1], true⟩, elsi := true } with
      lines := { R.lines with uart16550 := true } } = some (.word 0x63, [.notify .uart16550 false]) ∧
    seen .rdUart16550Lsr R = reads 0x60 := by decide
/- X15 -/
theorem test_wr_uart16550_lsr :
    after (·.u16) (.wrUart16550Lsr 0xFFFFFFFF) (u16With { R.u16 with port := ⟨[], [1], true⟩ }) =
      some { R.u16 with port := ⟨[], [1], true⟩ } := by decide
/- X8: the policy of this window is RejectAndFlag -/
theorem test_ev_uart16550_rxchar :
    seen (.evUart16550RxChar 1) { two with u16 := { two.u16 with port := ⟨[], [1, 2], false⟩, elsi := true } } =
      emits [.warn .overrun, .notify .uart16550 true] ∧
    after (·.u16.port.rx) (.evUart16550RxChar 0x34) R = some [0x34] := by decide
/- X10, X11 -/
theorem test_ev_uart16550_setmap :
    after (·.u16.mapSel) (.evUart16550SetMap true) R = some true ∧
    decodeRead true .uart16550 0 = .rdUart16550Dll ∧ decodeRead false .uart16550 4 = .rdUart16550Ier := by decide
/- Z6 -/
theorem test_ev_uart16550_reset :
    after (·.u16) .evUart16550Reset (u16With { R.u16 with mapSel := true, lcr := 3, port := ⟨[1], [2], true⟩ }) =
      some R.u16 := by decide

/-! ### SPI and I2C (2.8) -/

def spiWith (p : Port) (v : Word) : State := { R with spi := setSpiControl v { R.spi with port := p } }
def i2cWith (p : Port) (v : Word) : State := { R with i2c := setI2cControl v { R.i2c with port := p } }

theorem test_rd_spi_control : seen .rdSpiControl R = reads 0x100 ∧ seen .rdSpiControl (spiWith Port.empty 0xFFFFFFFF) = reads 0x1F1F7F := by
  decide
/- SP4 -/
theorem test_wr_spi_control : seen (.wrSpiControl 0x101) (spiWith ⟨[0x11], [], false⟩ 0x100) = emits [.tx .spi 0x11] := by decide
/- R487 (2): loopback drain into a full RX FIFO -/
theorem test_wr_spi_control_loopback :
    seen (.wrSpiControl 0x103) { two with spi := { two.spi with port := ⟨[1, 2], [8, 9], false⟩ } } =
      emits [.tx .spi 1, .warn .overrun, .tx .spi 2, .warn .overrun] := by decide
/- SP1 -/
theorem test_rd_spi_data : seen .rdSpiData (spiWith ⟨[], [0xA5], false⟩ 0x103) = reads 0xA5 := by decide
/- SP1, SP5, SP3 -/
theorem test_wr_spi_data :
    seen (.wrSpiData 0x7E) (spiWith Port.empty 0x123) = emits [.tx .spi 0x7E, .notify .spi true] ∧
    after (·.spi.port.rx) (.wrSpiData 0xA5) (spiWith Port.empty 0x103) = some [0xA5] ∧
    after (·.spi.port.tx) (.wrSpiData 0x11) R = some [0x11] := by decide
/- SP1 -/
theorem test_rd_spi_status : seen .rdSpiStatus (spiWith ⟨[], [0xA5], false⟩ 0x103) = reads 1 := by decide
theorem test_wr_spi_status :
    after (·.spi.port) (.wrSpiStatus 0x1F) (spiWith ⟨[1], [2], true⟩ 0) = some ⟨[1], [2], false⟩ ∧
    after (·.spi.port) (.wrSpiStatus 0xF) (spiWith ⟨[1], [2], true⟩ 0) = some ⟨[1], [2], true⟩ := by decide
/- SP3 -/
theorem test_ev_spi_rxchar :
    after (·.spi.port.rx) (.evSpiRxChar 0x22) R = some [] ∧
    after (·.spi.port.rx) (.evSpiRxChar 0x22) (spiWith Port.empty 0x101) = some [0x22] := by decide
theorem test_ev_spi_reset : after (·.spi) .evSpiReset (spiWith ⟨[1], [2], true⟩ 0x123) = some R.spi := by decide
/- I1 -/
theorem test_rd_i2c_control : seen .rdI2cControl R = reads 0x10000 := by decide
/- I2, I5 -/
theorem test_wr_i2c_control :
    after (fun t => (t.i2c.en, t.i2c.start, t.i2c.stop, t.i2c.slaveAddr)) (.wrI2cControl 0x15007) R =
      some (true, true, true, 0x50) ∧
    seen .rdI2cControl (i2cWith Port.empty 0xFFFFFFFF) = reads 0x1F1F7F7F := by decide
theorem test_rd_i2c_data : seen .rdI2cData (i2cWith ⟨[], [0x77], false⟩ 0) = reads 0x77 := by decide
/- I3: no address byte -/
theorem test_wr_i2c_data : seen (.wrI2cData 0xA0) (i2cWith Port.empty 0x15007) = emits [.tx .i2c 0xA0] := by decide
/- I1 -/
theorem test_rd_i2c_status : seen .rdI2cStatus R = reads 5 := by decide
theorem test_wr_i2c_status :
    after (·.i2c.port.overrun) (.wrI2cStatus 0x10) (i2cWith ⟨[], [], true⟩ 0) = some false := by decide
theorem test_rd_i2c_clockdiv : seen .rdI2cClockDiv R = reads 1 := by decide
/- I4 -/
theorem test_wr_i2c_clockdiv :
    seen (.wrI2cClockDiv 0) R = emits [.warn .zeroDiv] ∧ after (·.i2c.div) (.wrI2cClockDiv 0x64) R = some 0x64 := by decide
theorem test_ev_i2c_rxchar :
    after (·.i2c.port.rx) (.evI2cRxChar 0x11) (i2cWith Port.empty 1) = some [0x11] ∧
    after (·.i2c.port.rx) (.evI2cRxChar 0x11) R = some [] := by decide
theorem test_ev_i2c_reset : after (·.i2c) .evI2cReset (i2cWith ⟨[1], [2], true⟩ 0xFFFFFFFF) = some R.i2c := by decide

/-! ### TIMER (2.4, P1) -/

def timerWith (t : Timer) : State := { R with timer := t }
/-- Running, Periodic, limit 10, prescaler 1, overflow interrupt enabled (S6). -/
def periodic (v : Word) : Timer := { R.timer with running := true, limit := 10, value := v, ovfIe := true }

/- S6, S2 -/
theorem test_rd_timer_control : seen .rdTimerControl (timerWith (periodic 0)) = reads 5 := by decide
/- T10, T18 -/
theorem test_wr_timer_control :
    after (fun t => (t.timer.running, t.timer.prescCnt, t.timer.value)) (.wrTimerControl 1)
      (timerWith { R.timer with prescCnt := 1, prescaler := 3, value := 1 }) = some (true, 0, 1) ∧
    seen (.wrTimerControl 1) { timerWith { periodic 0 with ovfPending := true } with lines := { R.lines with timer := true } } =
      emits [.notify .timer false] := by decide
theorem test_rd_timer_value : seen .rdTimerValue (timerWith (periodic 9)) = reads 9 := by decide
theorem test_wr_timer_value :
    after (fun t => (t.timer.value, t.timer.ovfPending)) (.wrTimerValue 20) (timerWith (periodic 0)) = some (20, false) := by decide
theorem test_rd_timer_reload : seen .rdTimerReload (timerWith (periodic 9)) = reads 10 := by decide
theorem test_wr_timer_reload :
    after (fun t => (t.timer.limit, t.timer.value)) (.wrTimerReload 3) (timerWith (periodic 9)) = some (3, 9) := by decide
theorem test_rd_timer_prescaler : seen .rdTimerPrescaler R = reads 1 := by decide
/- T9, T11 -/
theorem test_wr_timer_prescaler :
    after (fun t => (t.timer.prescaler, t.timer.prescCnt)) (.wrTimerPrescaler 3)
      (timerWith { periodic 1 with prescaler := 3, prescCnt := 1 }) = some (3, 0) ∧
    seen (.wrTimerPrescaler 0) R = emits [.warn .zeroDiv] ∧ after (·.timer.prescaler) (.wrTimerPrescaler 0) R = some 1 := by
  decide
theorem test_rd_timer_status : seen .rdTimerStatus (timerWith { periodic 0 with ovfPending := true }) = reads 1 := by decide
/- RB table of R147, S1 -/
theorem test_wr_timer_status :
    seen (.wrTimerStatus 1) { timerWith { periodic 0 with ovfPending := true } with lines := { R.lines with timer := true } } =
      emits [.notify .timer false] ∧
    after (·.timer.ovfPending) (.wrTimerStatus 2) (timerWith { periodic 0 with ovfPending := true }) = some true := by decide
theorem test_rd_timer_cmp_target :
    seen (.rdTimerCmpTarget 1) (timerWith { R.timer with cmp := [Cmp.reset, ⟨7, true, false, true⟩] }) = reads 7 ∧
    seen (.rdTimerCmpTarget 2) R = some (.word 0, [.warn (.oorRead 0x40)]) := by decide
/- R432: a write of the target re-arms and sets nothing (T16) -/
theorem test_wr_timer_cmp_target :
    after (·.timer.cmp) (.wrTimerCmpTarget 1 2) (timerWith { R.timer with value := 2, cmp := [Cmp.reset, ⟨7, true, false, false⟩] }) =
      some [Cmp.reset, ⟨2, true, false, true⟩] := by decide
/- T15 -/
theorem test_rd_timer_cmp_ctrl :
    seen (.rdTimerCmpCtrl 0) (timerWith { R.timer with cmp := [⟨3, false, true, true⟩, Cmp.reset] }) = reads 2 := by decide
/- T15, P1 step 18 -/
theorem test_wr_timer_cmp_ctrl :
    seen (.wrTimerCmpCtrl 0 1) (timerWith { R.timer with cmp := [⟨3, false, true, true⟩, Cmp.reset] }) =
      emits [.notify .timer true] ∧
    after (·.timer.cmp) (.wrTimerCmpCtrl 0 2) (timerWith { R.timer with cmp := [⟨3, true, true, true⟩, Cmp.reset] }) =
      some [⟨3, false, false, true⟩, Cmp.reset] := by decide
/- S6: the tenth tick -/
theorem test_ev_timer_tick :
    seen .evTimerTick (timerWith (periodic 9)) = emits [.notify .timer true] ∧
    after (fun t => (t.timer.value, t.timer.ovfPending)) .evTimerTick (timerWith (periodic 9)) = some (0, true) ∧
    seen .evTimerTick R = quiet := by decide
/- T1, T7, T17 -/
theorem test_ev_timer_tick_limits :
    after (fun t => (t.timer.value, t.timer.running)) .evTimerTick
      (timerWith { R.timer with running := true, oneshot := true, limit := 3, value := 2 }) = some (3, false) ∧
    after (·.timer.value) .evTimerTick
      (timerWith { R.timer with running := true, limit := 0xFFFFFFFF, value := 0xFFFFFFFE }) = some 0 ∧
    after (fun t => t.timer.cmp.map Cmp.pending) .evTimerTick
      (timerWith { R.timer with running := true, limit := 4, value := 3 }) = some [true, true] := by decide
/- Z3 -/
theorem test_ev_timer_reset :
    after (·.timer) .evTimerReset (timerWith { periodic 7 with cmp := [⟨3, true, true, false⟩, Cmp.reset] }) = some R.timer := by
  decide

/-! ### DMA (2.5, P2) -/

def dmaWith (en : Bool) (c : DmaChannel) : State :=
  { R with dma := ⟨en, [c, DmaChannel.reset, DmaChannel.reset, DmaChannel.reset]⟩ }
/-- The channel of D1: enabled, interrupt enabled. -/
def ch0 : DmaChannel := ⟨0x1000, 0x2000, 4, true, true, false⟩

theorem test_rd_dma_control : seen .rdDmaControl (dmaWith true ch0) = reads 1 := by decide
/- D10 -/
theorem test_wr_dma_control :
    seen (.wrDmaControl 0) { dmaWith true { ch0 with pending := true } with lines := { R.lines with dma := true } } = quiet ∧
    after (·.dma.en) (.wrDmaControl 3) R = some true := by decide
theorem test_rd_dma_ch_src : seen (.rdDmaChSrc 0) (dmaWith true ch0) = reads 0x1000 := by decide
theorem test_wr_dma_ch_src : after (fun t => t.dma.ch.map DmaChannel.src) (.wrDmaChSrc 2 0x30) R = some [0, 0, 0x30, 0] := by decide
theorem test_rd_dma_ch_dst : seen (.rdDmaChDst 0) (dmaWith true ch0) = reads 0x2000 := by decide
theorem test_wr_dma_ch_dst : after (fun t => t.dma.ch.map DmaChannel.dst) (.wrDmaChDst 3 0x30) R = some [0, 0, 0, 0x30] := by decide
/- RB6 -/
theorem test_rd_dma_ch_count :
    seen (.rdDmaChCount 0) (dmaWith true ch0) = reads 4 ∧
    seen (.rdDmaChCount 4) R = some (.word 0, [.warn (.oorRead 0x188)]) := by decide
theorem test_wr_dma_ch_count :
    after (fun t => t.dma.ch.map DmaChannel.count) (.wrDmaChCount 1 0x30) R = some [0, 0x30, 0, 0] ∧
    seen (.wrDmaChCount 7 1) R = emits [.warn (.oorWrite 0x1E8)] := by decide
/- D1 -/
theorem test_rd_dma_ch_ctrl : seen (.rdDmaChCtrl 0) (dmaWith false ch0) = reads 5 := by decide
/- D1, D9, and the example of R451 -/
theorem test_wr_dma_ch_ctrl :
    seen (.wrDmaChCtrl 0 7) (dmaWith false { ch0 with enabled := false }) = quiet ∧
    seen (.wrDmaChCtrl 0 7) (dmaWith true { ch0 with enabled := false, ie := false }) =
      emits [.memcopy 0x1000 0x2000 4, .notify .dma true] := by decide
theorem test_wr_dma_ch_ctrl_clears_flag :
    after (fun t => (t.dma.ch.map DmaChannel.pending, t.trace)) (.wrDmaChCtrl 0 0xD) (dmaWith true { ch0 with pending := true }) =
      some ([false, false, false, false], []) := by decide
/- D2, D6, D7 -/
theorem test_ev_dma_req :
    seen (.evDmaReq 0) (dmaWith true { ch0 with ie := false }) = emits [.memcopy 0x1000 0x2000 4] ∧
    seen (.evDmaReq 4) R = emits [.warn (.badChannel 4)] := by decide
theorem test_ev_dma_req_overlap :
    after (·.mem) (.evDmaReq 0) { dmaWith true { ch0 with dst := 0x1002 } with
      mem := [(0x1000, 0xA0), (0x1001, 0xA1), (0x1002, 0xA2), (0x1003, 0xA3)] } =
      some [(0x1000, 0xA0), (0x1001, 0xA1), (0x1002, 0xA0), (0x1003, 0xA1), (0x1004, 0xA2), (0x1005, 0xA3)] := by decide
/- Z4 -/
theorem test_ev_dma_reset :
    after (fun t => (t.dma, t.mem)) .evDmaReset { dmaWith true ch0 with mem := [(1, 2)] } = some (R.dma, [(1, 2)]) := by decide

/-! ### INTC (P4) -/

def intcWith (x : Intc) : State := { R with intc := x }
/-- Sources 0 and 1 enabled with priority 5. -/
def two5 : Intc := { R.intc with enable := 3, prio := 5 :: 5 :: List.replicate 30 0 }

theorem test_rd_intc_enable : seen .rdIntcEnable (intcWith two5) = reads 3 := by decide
theorem test_wr_intc_enable :
    seen (.wrIntcEnable 1) (intcWith { R.intc with pending := 3 }) = emits [.notify .intc true] ∧
    after (·.intc.enable) (.wrIntcEnable 0x1FF) (State.powerOn { Config.default with nIrqSrc := 8 }) = some 0xFF := by decide
/- S5 -/
theorem test_rd_intc_pending : seen .rdIntcPending (intcWith { two5 with pending := 3 }) = reads 3 := by decide
/- RB13 -/
theorem test_wr_intc_pending :
    seen (.wrIntcPending 0xFFFFFFFF) R = quiet ∧ after (·.intc.pending) (.wrIntcPending 0xFFFFFFFF) R = some 0 := by decide
theorem test_rd_intc_priority : seen (.rdIntcPriority 1) (intcWith two5) = reads 5 := by decide
/- S2 -/
theorem test_wr_intc_priority : after (fun t => t.intc.prio.take 4) (.wrIntcPriority 3 0x1FF) R = some [0, 0, 0, 0xFF] := by decide
/- S5 -/
theorem test_ev_intc_src :
    seen (.evIntcSrc 0 true) (intcWith two5) = emits [.notify .intc true] ∧
    seen (.evIntcSrc 40 true) R = emits [.warn (.badSource 40)] ∧
    after intcWinner (.evIntcSrc 1 true) (intcWith { two5 with pending := 1 }) = some (some 0) := by decide
/- Z5 -/
theorem test_ev_intc_reset : after (·.intc) .evIntcReset (intcWith { two5 with pending := 5 }) = some R.intc := by decide

/-! ### Component operations (2.1 to 2.6) -/

/- RB2, RB4 -/
theorem test_op_rb_read :
    seen (.opRbRead .uart 0x10) R = some (.word 0, [.warn (.oorRead 0x10)]) ∧
    seen (.opRbRead .timer 0x28) R = some (.word 0, [.warn (.oorRead 0x28)]) ∧
    seen (.opRbRead .timer 0xC) R = reads 1 := by decide
/- RB3, RB9 -/
theorem test_op_rb_write :
    seen (.opRbWrite .spi 0xC 0xFFFFFFFF) R = emits [.warn (.oorWrite 0xC)] ∧
    seen (.opRbWrite .uart 8 0xFFFFFFFF) R = emits [.notify .uart true] := by decide
/- R152 -/
theorem test_op_rb_reset :
    after (fun t => (t.uart.txEn, t.uart.rxTrig, t.uart.port.rx)) (.opRbReset .uart) (uartWith ⟨[], [2], false⟩ 0x1) =
      some (false, 1, [2]) := by decide
/- RB14 -/
theorem test_op_rb_define :
    exec (.opRbDefine [⟨0, true, true, .always, 0, 0,
      [⟨0, 4, .rw, .pure, false, false, 0⟩, ⟨2, 2, .rw, .pure, false, false, 0⟩]⟩]) R = .fault (.definition .fOverlap) ∧
    exec (.opRbDefine [⟨0, true, true, .always, 0, 0,
      [⟨0, 4, .rw, .pure, false, false, 0⟩, ⟨4, 2, .rw, .pure, false, false, 0⟩]⟩]) R = .next { R with result := .nothing } := by
  constructor <;> rfl

/-- The transmit queue of the UART, with room for two bytes. -/
def q : FifoId := ⟨.uart, .tx⟩
def holding (bs : List Byte) : State := { two with uart := { two.uart with port := ⟨bs, [], false⟩ } }

/- 2.2 steps 3, 9 -/
theorem test_op_fifo_push :
    after (fun t => (t.result, fifoOf q t)) (.opFifoPush q 0x42) (holding [0x41]) = some (.bool true, [0x41, 0x42]) ∧
    after (fun t => (t.result, fifoOf q t)) (.opFifoPush q 0xEE) (holding [1, 2]) = some (.bool false, [1, 2]) := by decide
/- 2.2 steps 2, 6 -/
theorem test_op_fifo_pop :
    after (fun t => (t.result, fifoOf q t)) (.opFifoPop q) (holding [0x41, 0x42]) = some (.byte (some 0x41), [0x42]) ∧
    after (fun t => (t.result, fifoOf q t)) (.opFifoPop q) (holding []) = some (.byte none, []) := by decide
theorem test_op_fifo_count : seen (.opFifoCount q) (holding [0x41, 0x42]) = some (.count 2, []) := by decide
theorem test_op_fifo_isfull :
    seen (.opFifoIsFull q) (holding [1, 2]) = some (.bool true, []) ∧ seen (.opFifoIsFull q) (holding [1]) = some (.bool false, []) := by
  decide
theorem test_op_fifo_isempty :
    seen (.opFifoIsEmpty q) (holding []) = some (.bool true, []) ∧ seen (.opFifoIsEmpty q) (holding [1]) = some (.bool false, []) := by
  decide
theorem test_op_fifo_clear :
    after (fun t => (t.trace, fifoOf q t)) (.opFifoClear q) (holding [1, 2]) = some ([], []) := by decide
/- IL1 to IL3 -/
theorem test_op_line_set :
    seen (.opLineSet .gpio false) R = quiet ∧ seen (.opLineSet .gpio true) R = emits [.notify .gpio true] ∧
    seen (.opLineSet .gpio true) latched = quiet := by decide
/- S4, AG1 -/
theorem test_op_agg_or :
    seen (.opAggOr .spi [⟨true, false, 0⟩, ⟨false, true, 0⟩]) R = quiet ∧ seen (.opAggOr .spi []) R = quiet ∧
    seen (.opAggOr .spi [⟨true, true, 0⟩, ⟨false, true, 0⟩]) R = emits [.notify .spi true] := by decide
/- AG2, AG4, AG8 -/
theorem test_op_agg_prio :
    seen (.opAggPrio .i2c [⟨true, true, 3⟩, ⟨true, true, 7⟩, ⟨true, true, 7⟩]) R =
      some (.winner (some 1), [.notify .i2c true]) ∧
    seen (.opAggPrio .i2c [⟨false, true, 3⟩, ⟨false, true, 7⟩, ⟨true, false, 7⟩]) R = some (.winner none, []) ∧
    seen (.opAggPrio .i2c [⟨true, true, 254⟩, ⟨true, true, 255⟩]) R = some (.winner (some 1), [.notify .i2c true]) := by decide
/- AG5 -/
theorem test_op_agg_snapshot :
    seen (.opAggSnapshot [⟨false, true, 0⟩, ⟨true, false, 0⟩, ⟨false, true, 0⟩]) R = reads 5 := by decide
/- R226: no line is recomputed by the operation alone -/
theorem test_op_tch_tick :
    seen .opTchTick (timerWith (periodic 9)) = quiet ∧
    after (·.timer.ovfPending) .opTchTick (timerWith (periodic 9)) = some true := by decide
theorem test_op_tch_start :
    after (fun t => (t.timer.running, t.timer.prescCnt)) .opTchStart (timerWith { R.timer with prescaler := 3, prescCnt := 2 }) =
      some (true, 0) := by decide
theorem test_op_tch_stop : after (fun t => (t.timer.running, t.timer.value)) .opTchStop (timerWith (periodic 7)) = some (false, 7) := by
  decide
theorem test_op_cmp_eval :
    after (fun t => t.timer.cmp.map Cmp.pending) (.opCmpEval 1) R = some [false, true] ∧
    after (fun t => t.timer.cmp.map Cmp.pending) (.opCmpEval 1) (timerWith (periodic 7)) = some [false, false] := by decide
/- S7 -/
theorem test_op_dch_configure :
    after (fun t => t.dma.ch.take 1) (.opDchConfigure 0 0x1000 0x2000 4) R = some [⟨0x1000, 0x2000, 4, false, false, false⟩] := by
  decide
theorem test_op_dch_setenabled :
    after (fun t => t.dma.ch.map DmaChannel.enabled) (.opDchSetEnabled 2 true) R = some [false, false, true, false] := by decide
/- S7: the controller's enable is not asked -/
theorem test_op_dch_trigger :
    seen (.opDchTrigger 0) (dmaWith false ch0) = emits [.memcopy 0x1000 0x2000 4, .notify .dma true] ∧
    seen (.opDchTrigger 0) (dmaWith true { ch0 with enabled := false }) = quiet := by decide
theorem test_op_dma_request :
    seen (.opDmaRequest 0) (dmaWith true ch0) = emits [.memcopy 0x1000 0x2000 4, .notify .dma true] ∧
    seen (.opDmaRequest 9) R = emits [.warn (.badChannel 9)] := by decide
theorem test_op_ser_datawrite :
    seen (.opSerDataWrite .uart16550 0x41) R = emits [.tx .uart16550 0x41] ∧
    after (·.uart.port.tx) (.opSerDataWrite .uart 0x41) R = some [0x41] := by decide
theorem test_op_ser_dataread :
    seen (.opSerDataRead .spi) (spiWith ⟨[], [0x7E], false⟩ 0) = reads 0x7E ∧
    seen (.opSerDataRead .spi) R = some (.word 0, [.warn .rxEmpty]) := by decide
theorem test_op_ser_rxchar :
    after (·.uart.port) (.opSerRxChar .uart 0xEE) { two with uart := setUartControl 2 { two.uart with port := ⟨[], [1, 2], false⟩ } } =
      some ⟨[], [1, 2], true⟩ ∧
    after (·.i2c.port) (.opSerRxChar .i2c 0xEE) R = some Port.empty := by decide
/- The example of R294 -/
theorem test_op_ser_drain :
    seen (.opSerDrain .i2c) (i2cWith ⟨[0x41, 0x42], [], false⟩ 0) = emits [.tx .i2c 0x41, .tx .i2c 0x42] := by decide

/-! ### Steps -/

/-- A transfer into a placed window is refused (R97, U7). -/
theorem test_dma_window_refused :
    exec (.evDmaReq 0) { dmaWith true ch0 with cfg := { Config.default with bases := [(.uart, 0x2003)] } } =
      .refused .dmaTouchesWindow := by rfl
/-- A key of class 4 is refused by `step`; an empty queue leaves the block at rest. -/
theorem test_step_edges :
    step (R.withFetchWord 24 0x04000) = .refused (.notAStimulus .badClass) ∧ step R = .next R := by
  constructor <;> rfl
/-- The table word of `EV TIMER.TICK` runs as the first step. -/
theorem test_step_runs_table_word :
    step ((timerWith (periodic 9)).withFetchWord 24 0x52001) = exec .evTimerTick (timerWith (periodic 9)) ∧
    decodeTableWord 24 0x52001 = some .evTimerTick := by
  constructor <;> rfl

/-! ## Witnesses: a concrete state and operands that meet the hypotheses of each statement

One theorem `witness_<statement>` for each statement of Certificates/Slice0/Obligations.lean that has hypotheses, with each clause at a boundary of its range. -/

/-- A block with every queue of two bytes, 8 pins, 4 sources, 1 compare channel, 2 DMA channels. -/
def smallCfg : Config :=
  { Config.default with fifoCap := 2, nGpio := 8, nCmp := 1, nDmaCh := 2, nIrqSrc := 4, ovrUart := .rejectAndFlag }

/-- A state of that block in the middle of its work, with every line at the level of its sources: receivers and transmitters
on, bytes waiting, the timer about to advance, DMA channel 1 ready, sources pending. -/
def busy : State :=
  { State.powerOn smallCfg with
    gpio  := ⟨0x0F, 0xA5, 0xF0, 4, 4, 4, 4, 0⟩
    uart  := setUartControl 0x00000107 { (State.powerOn smallCfg).uart with port := ⟨[], [0x55], false⟩ }
    u16   := { (State.powerOn smallCfg).u16 with port := ⟨[], [0x31, 0x32], false⟩, erbfi := true }
    spi   := setSpiControl 0x00000103 { (State.powerOn smallCfg).spi with port := ⟨[], [1, 2], false⟩ }
    i2c   := setI2cControl 0x00010000 { (State.powerOn smallCfg).i2c with port := ⟨[7, 8], [9], false⟩ }
    timer := ⟨true, 9, 10, 2, false, false, true, 1, [⟨10, true, false, true⟩]⟩
    dma   := ⟨true, [DmaChannel.reset, ⟨0x1000, 0x1001, 2, true, true, false⟩]⟩
    intc  := ⟨0xF, 0x9, [5, 5, 9, 5]⟩
    lines := ⟨true, true, true, false, false, false, false, true⟩
    mem   := [(0x1000, 0xA0), (0x1001, 0xA1)] }

/-- A UART16550, whose transmitter is always on, with a TX queue that `OP FIFO.PUSH` has filled. -/
def fullTx : State := { busy with u16 := { busy.u16 with port := ⟨[1, 2], [], false⟩ } }

/-- A looping SPI with a full TX queue and an empty RX queue. -/
def fullLoop : State := { busy with spi := { busy.spi with port := ⟨[1, 2], [], false⟩ } }

/-- A platform that places the UART window in the range of channel 0. -/
def placed : State := { dmaWith true ch0 with cfg := { Config.default with bases := [(.uart, 0x2003)] } }

theorem witness_busy : busy.Inv ∧ LinesAgree busy ∧ busy.cfg.bases = [] := by decide

theorem witness_DecodeInvertsEncode :
    ((Instr.rdTimerCmpTarget 13).wf = true ∧ (Instr.rdTimerCmpTarget 13).mapping.active true = true) ∧
    ((Instr.wrUart16550Dll 255).wf = true ∧ (Instr.wrUart16550Dll 255).mapping.active true = true) ∧
    ((Instr.wrUart16550Thr 255).wf = true ∧ (Instr.wrUart16550Thr 255).mapping.active false = true) ∧
    (Instr.opRbDefine [⟨4, true, false, .sel1, 0, 0, [⟨31, 1, .w1c, .pure, true, true, 1⟩]⟩]).wf = true := by decide

theorem witness_DecodedStimuliAreWellFormed :
    decode true ⟨0x50104, 0, []⟩ = .ok (.opRbRead .timer 0x104) ∧ decode false ⟨0x500F4, 0, []⟩ = .ok (.rdTimerCmpCtrl 13) := by
  decide

theorem witness_UndefinedKeysAreRefused :
    decode false ⟨0x74FFF, 0, []⟩ = .error .badClass ∧ decode false ⟨0x82000, 0, []⟩ = .error .badPid ∧
    decode false ⟨0xE3001, 0, []⟩ = .error .badPid ∧ decode false ⟨0x71FFF, 0, []⟩ = .ok (.opRbWrite .intc 0xFFF 0) ∧
    decode false ⟨0x72001, 0, []⟩ = .ok (.evIntcSrc 0 false) ∧ decode false ⟨0x22002, 0, []⟩ = .ok (.evUart16550SetMap false) ∧
    decode false ⟨0x12002, 0, []⟩ = .error .badEvent ∧ decode false ⟨0x22003, 0, []⟩ = .error .badEvent ∧
    decode false ⟨0xF3000, 0, []⟩ = .error .badOp ∧ decode false ⟨0xF3054, 0, []⟩ = .error .badOp ∧
    decode false ⟨0xF3053, 0, []⟩ = .ok (.opSerDrain .uart) ∧ decode false ⟨0xF3004, 0, []⟩ = .ok (.opRbDefine []) ∧
    decode false ⟨0xF3004, 0, [0]⟩ = .error .badBank ∧
    decode false ⟨0xF3023, 0, List.replicate 33 0⟩ = .error .tooManySources := by decide

theorem witness_StepExecutesDecodedStimulus :
    ({ busy with input := [⟨0x52001, 0, []⟩, ⟨0x12000, 0, []⟩] } : State).input = ⟨0x52001, 0, []⟩ :: [⟨0x12000, 0, []⟩] ∧
    decode busy.u16.mapSel ⟨0x52001, 0, []⟩ = .ok .evTimerTick ∧ Instr.evTimerTick.wf = true ∧
    decode busy.u16.mapSel ⟨0x04000, 0, []⟩ = .error .badClass ∧ busy.input = [] := by decide

theorem witness_MappingSelectsRegister :
    (0x20008 : BitVec 20) ≠ 0x20000 ∧ (0x20008 : BitVec 20) ≠ 0x20004 ∧ (0x20008 : BitVec 20) ≠ 0x21000 ∧
    (0x20008 : BitVec 20) ≠ 0x21004 := by decide

/-- `BusAccessIsBankAccess`: `Inv` with no window in `Mem`; a matched and an unmatched offset. -/
theorem witness_BusAccessIsBankAccess :
    busy.Inv ∧ busy.cfg.bases = [] ∧ decodeRead false .dma 0x12C = .rdDmaChCtrl 1 ∧
    decodeRead false .dma 0x130 = .opRbRead .dma 0x130 := by decide

/-- Each ground of an unmatched access, at its first value. -/
theorem witness_UnmatchedReadReturnsZero :
    (2 % 4 ≠ 0 ∧ 0x1000 ≤ (0x1000 : Word).toNat ∧ windowSize busy.cfg .intc ≤ (0x110 : Word).toNat) ∧
    lookup busy.cfg false .intc true 0x110 = none ∧ (lookup busy.cfg false .intc true 0x10C).isSome = true ∧
    lookup busy.cfg false .timer true 0x28 = none ∧ busy.cfg.Legal := by decide

theorem witness_UnmatchedWriteIsIgnored :
    (2 % 4 ≠ 0 ∧ 0x1000 ≤ (0x1000 : Word).toNat ∧ windowSize busy.cfg .spi ≤ (0xC : Word).toNat) ∧
    lookup busy.cfg false .spi false 0xC = none ∧ (lookup busy.cfg false .spi false 0x8).isSome = true ∧ busy.cfg.Legal := by
  decide

/-- A Register of `Pure` fields and one with a `SideEffect` field. -/
theorem witness_BankReadPacksFields :
    (∃ r, lookup busy.cfg false .uart true 4 = some r ∧ ∀ f ∈ r.fields, (fieldDesc busy.cfg f).effect = .pure) ∧
    ∃ r, lookup busy.cfg false .uart true 0 = some r ∧ ∃ f ∈ r.fields, (fieldDesc busy.cfg f).effect = .sideEffect := by
  refine ⟨⟨_, rfl, by decide⟩, ⟨_, rfl, by decide⟩⟩

theorem witness_ReservedBitsReadZeroAndAreDiscarded :
    (∃ r t x, lookup busy.cfg false .timer true 0 = some r ∧ exec (.opRbRead .timer 0) busy = .next t ∧ t.result = .word x) ∧
    ∃ r, lookup busy.cfg false .timer false 0 = some r := by
  refine ⟨⟨_, _, _, rfl, rfl, rfl⟩, ⟨_, rfl⟩⟩

/-- One register of each window R154 lists, at the last index of each array. -/
theorem witness_StorageRoundTripIsStable :
    busy.Inv ∧ (storageOffset busy.cfg false .gpio 0x18 ∧ storageOffset busy.cfg false .uart 0x0C ∧
      storageOffset busy.cfg true .uart16550 0x00 ∧ storageOffset busy.cfg false .spi 0x00 ∧
      storageOffset busy.cfg false .i2c 0x0C ∧ storageOffset busy.cfg false .timer 0x20 ∧
      storageOffset busy.cfg false .dma 0x128 ∧ storageOffset busy.cfg false .intc 0x10C) ∧
    ∃ t, busRead .dma 0x128 busy = .next t ∧ t.result = .word 2 := by
  refine ⟨by decide, ⟨?_, ?_, ?_, ?_, ?_, ?_, ?_, ?_⟩, ⟨_, rfl, rfl⟩⟩
  · exact .inr ⟨rfl, .inr (.inr (.inr rfl))⟩
  · exact .inr rfl
  · exact .inr (.inr ⟨rfl, rfl⟩)
  · exact rfl
  · exact .inr rfl
  · exact .inr (.inr ⟨0, by decide, rfl⟩)
  · exact .inr ⟨1, by decide, .inr (.inr rfl)⟩
  · exact .inr ⟨3, by decide, rfl⟩

theorem witness_StorageReadsBackWhatWasWritten :
    busy.Inv ∧ storageOffset busy.cfg false .uart 0x0C ∧
    ∃ r, lookup busy.cfg false .uart false 0x0C = some r ∧ (0x00018000 : Word) &&& implementedBits busy.cfg r ≠ 0 := by
  refine ⟨by decide, .inr rfl, ⟨_, rfl, by decide⟩⟩

/-- A well-formed bank: two fields side by side up to bit 31. -/
theorem witness_DefinitionCheck_wellFormed :
    BankWellFormed [⟨0xFFC, true, true, .always, 0x1, 0, [⟨4, 4, .rw, .pure, false, false, 15⟩, ⟨8, 24, .ro, .pure, true, false, 0⟩]⟩] := by
  intro c
  cases c <;> simp [bankClause, fieldHas]
  all_goals intro i; omega

/-- An ill-formed bank: an offset of 0x1000. -/
theorem witness_DefinitionCheck_illFormed : ¬BankWellFormed [⟨0x1000, true, true, .always, 0, 0, []⟩] := by
  intro h
  have h1 := h .fOffset
  revert h1
  simp [bankClause]

theorem witness_BankResetRestoresCells :
    busy.Inv ∧ ∃ r ∈ registersOf busy.cfg .i2c, ∃ f ∈ r.fields,
      (fieldDesc busy.cfg f).mode = .rw ∧ (fieldDesc busy.cfg f).provider = false := by
  refine ⟨by decide, by decide⟩

/-- A full queue, one with room, an empty one. -/
theorem witness_FifoPushAppendsOrRejects :
    (fifoOf ⟨.spi, .rx⟩ busy).length = busy.cfg.fifoCap ∧ (fifoOf ⟨.uart, .rx⟩ busy).length ≠ busy.cfg.fifoCap ∧
    (fifoOf ⟨.uart, .rx⟩ busy).length ≤ busy.cfg.fifoCap := by decide

theorem witness_FifoPopCountFullEmptyClear :
    fifoOf ⟨.uart, .tx⟩ busy = [] ∧ fifoOf ⟨.i2c, .tx⟩ busy = 7 :: [8] := by decide

theorem witness_PushesKeepTheFirstCapacityBytes : fifoOf ⟨.uart, .tx⟩ busy = [] := by decide

theorem witness_SnapshotBitIsPending : (List.replicate 32 (⟨false, true, 0⟩ : Source)).length ≤ 32 := by decide

/-- A bus access and an event whose line agrees before. -/
theorem witness_LinesAgreeAfterEveryStimulus :
    LinesAgree busy ∧ stimulusWindow .evTimerTick = some .timer ∧ (∃ t, exec .evTimerTick busy = .next t) ∧
    stimulusWindow (.opRbWrite .uart 8 0) = some .uart ∧ ∃ t, exec (.opRbWrite .uart 8 0) busy = .next t := by
  refine ⟨by decide, rfl, ⟨_, rfl⟩, rfl, ⟨_, rfl⟩⟩

/-- A stimulus with a notification and one without. -/
theorem witness_AtMostOneNotificationAndLast :
    (stimulusWindow .evTimerTick = some .timer ∧ ∃ t, exec .evTimerTick busy = .next t ∧ t.trace = [.notify .timer true]) ∧
    (stimulusWindow (.wrI2cControl 1) = some .i2c ∧
      ∃ t, exec (.wrI2cControl 1) busy = .next t ∧ t.trace = [.tx .i2c 7, .tx .i2c 8]) := by
  refine ⟨⟨rfl, ⟨_, rfl, by decide⟩⟩, ⟨rfl, ⟨_, rfl, by decide⟩⟩⟩

theorem witness_EveryStepKeepsInvariant :
    ({ busy with input := [⟨0x52001, 0, []⟩] } : State).Inv ∧
    ∃ t, step { busy with input := [⟨0x52001, 0, []⟩] } = .next t := by
  refine ⟨by decide, ⟨_, rfl⟩⟩

/-- The parameters at both ends of their ranges. -/
theorem witness_ResetMeetsInvariants :
    ({ Config.default with fifoCap := 1, nGpio := 1, nCmp := 0, nDmaCh := 1, nIrqSrc := 1 } : Config).Legal ∧
    ({ Config.default with nGpio := 32, nCmp := 14, nDmaCh := 8, nIrqSrc := 32 } : Config).Legal := by decide

theorem witness_EveryStimulusCompletes :
    (∀ bank, Instr.evDmaReq 0 ≠ .opRbDefine bank) ∧ busy.cfg.bases = [] ∧
    exec (.evDmaReq 0) { dmaWith true ch0 with cfg := { Config.default with bases := [(.uart, 0x2003)] } } =
      .refused .dmaTouchesWindow := by
  refine ⟨fun _ => Instr.noConfusion, rfl, rfl⟩

theorem witness_OnlyTransfersWriteMemory :
    mayTransfer (.wrDmaChCtrl 1 0xD) = false ∧ ∃ t, exec (.wrDmaChCtrl 1 0xD) busy = .next t := by
  refine ⟨by decide, ⟨_, rfl⟩⟩

theorem witness_WindowsAreIndependent :
    (stimulusWindow (.evDmaReq 1) = some .dma ∧ ∃ t, exec (.evDmaReq 1) busy = .next t) ∧
    (stimulusWindow .evTimerTick = some .timer ∧ mayTransfer .evTimerTick = false ∧ ∃ t, exec .evTimerTick busy = .next t) := by
  refine ⟨⟨rfl, ⟨_, rfl⟩⟩, ⟨rfl, rfl, ⟨_, rfl⟩⟩⟩

theorem witness_ConfigurationStaysAndTraceGrows : ∃ t, exec (.opSerDrain .i2c) busy = .next t := ⟨_, rfl⟩

theorem witness_WindowResetRestoresWindow : LengthsOk busy := by decide

theorem witness_WindowResetsCommute : Window.uart ≠ Window.intc := by decide

theorem witness_GpioReadsAreBitwise : busy.cfg.gpioExt = true := by decide

theorem witness_GpioWritesStoreOneVector : busy.cfg.gpioExt = true := by decide

/-- The first pin the block does not have, the last it has. -/
theorem witness_PinEventLatchesAsTheTableSays :
    busy.cfg.nGpio ≤ 32 ∧ busy.cfg.nGpio ≤ (8 : BitVec 16).toNat ∧ (7 : BitVec 16).toNat < busy.cfg.nGpio ∧
    R.cfg.nGpio ≤ 32 ∧ R.cfg.nGpio ≤ (32 : BitVec 16).toNat ∧ (31 : BitVec 16).toNat < R.cfg.nGpio := by decide

theorem witness_DataReadPopsOldestByte :
    (portOf .uart R).rx = [] ∧ (portOf .uart busy).rx = 0x55 :: [] ∧ (portOf .uart16550 R).rx = [] ∧
    (portOf .uart16550 busy).rx = 0x31 :: [0x32] ∧ (portOf .spi R).rx = [] ∧ (portOf .spi busy).rx = 1 :: [2] ∧
    (portOf .i2c R).rx = [] ∧ (portOf .i2c busy).rx = 9 :: [] := by decide

/-- Transmitter off with one place left, and with a full queue; an SPI that would loop back but is off; on with room, and with
a full queue. -/
theorem witness_DataWriteTransmitsOrQueues :
    (txOn .uart (holding [1]) = false ∧ (portOf .uart (holding [1])).tx.length ≠ (holding [1]).cfg.fifoCap) ∧
    (txOn .i2c busy = false ∧ (portOf .i2c busy).tx.length = busy.cfg.fifoCap) ∧
    (loopbackOn .spi (spiWith Port.empty 2) = true ∧ txOn .spi (spiWith Port.empty 2) = false ∧
      (portOf .spi (spiWith Port.empty 2)).tx.length ≠ (spiWith Port.empty 2).cfg.fifoCap) ∧
    (loopbackOn .uart busy = false ∧ txOn .uart busy = true ∧ (portOf .uart busy).tx.length ≠ busy.cfg.fifoCap) ∧
    (loopbackOn .uart16550 fullTx = false ∧ txOn .uart16550 fullTx = true ∧
      (portOf .uart16550 fullTx).tx.length = fullTx.cfg.fifoCap) := by decide

/-- A looping SPI that is on, with a full RX queue and an empty TX queue, or the other way round; the bits of the enabling write. -/
theorem witness_SpiLoopbackReceivesWhatItSends :
    (busy.spi.port.rx.length ≤ busy.cfg.fifoCap ∧ busy.spi.loopback = true ∧ busy.spi.en = true ∧
      busy.spi.port.tx.length ≠ busy.cfg.fifoCap) ∧
    (fullLoop.spi.port.rx.length ≤ fullLoop.cfg.fifoCap ∧ fullLoop.spi.loopback = true ∧ fullLoop.spi.en = true ∧
      fullLoop.spi.port.tx.length = fullLoop.cfg.fifoCap) ∧
    (3 : Word).getLsbD 0 = true ∧ (3 : Word).getLsbD 1 = true := by decide

/-- Receiver off; on with room; on with a full queue. -/
theorem witness_ReceivedByteIsQueuedOrLost :
    rxOn .i2c busy = false ∧ (rxOn .uart busy = true ∧ (portOf .uart busy).rx.length < busy.cfg.fifoCap) ∧
    (rxOn .uart16550 busy = true ∧ (portOf .uart16550 busy).rx.length = busy.cfg.fifoCap) := by decide

theorem witness_ControlRegistersStoreAndDrain :
    (0xFFFFFFFE : Word).getLsbD 0 = false ∧ (0xFFFFFFFD : Word).getLsbD 1 = false ∧ busy.spi.port.tx = [] := by decide

theorem witness_IirFollowsTheLine : busy.lines.uart16550 = lineLevel .uart16550 busy := by decide

theorem witness_TimerReadsArePure : cmpAt busy (0 : BitVec 4).toNat = some ⟨10, true, false, true⟩ := by decide

theorem witness_TimerWritesStoreStartAndClear :
    cmpAt busy (0 : BitVec 4).toNat = some ⟨10, true, false, true⟩ ∧
    cmpAt (State.powerOn { Config.default with nCmp := 14 }) (13 : BitVec 4).toNat = some Cmp.reset := by decide

theorem witness_TickCountsOverflowsAndCompares :
    busy.timer.running = true ∧ busy.timer.prescaler.toNat ≤ busy.timer.prescCnt + 1 := by decide

/-- Running and idle; a channel that matches, one that does not; the first channel the block does not have. -/
theorem witness_StartStopAndCompareOperations :
    busy.timer.running = true ∧ R.timer.running = false ∧
    (cmpAt R (1 : BitVec 16).toNat = some Cmp.reset ∧ R.timer.value = Cmp.reset.target ∧ R.cfg.cmpArmOnce = false) ∧
    (cmpAt busy (0 : BitVec 16).toNat = some ⟨10, true, false, true⟩ ∧ busy.timer.value ≠ 10) ∧
    busy.cfg.nCmp ≤ (1 : BitVec 16).toNat := by decide

theorem witness_PeriodicTimerPeriodIsLimitTimesPrescaler :
    let s := timerWith { periodic 0 with prescaler := 3 }
    s.timer.running = true ∧ s.timer.oneshot = false ∧ s.timer.ovfPending = false ∧ s.timer.value = 0 ∧
    s.timer.prescCnt = 0 ∧ 1 ≤ s.timer.limit.toNat ∧ 1 ≤ s.timer.prescaler.toNat := by decide

theorem witness_DmaRegistersStoreAndRead :
    chanAt busy (1 : BitVec 3).toNat = some ⟨0x1000, 0x1001, 2, true, true, false⟩ ∧ (0xD : Word).getLsbD 1 = false ∧
    chanAt busy (1 : BitVec 16).toNat = some ⟨0x1000, 0x1001, 2, true, true, false⟩ := by decide

/-- A copy that wraps over the top of memory. -/
theorem witness_MemCopyIsASnapshotCopy :
    Memory.wf busy.mem = true ∧ 3 < (4 : Word).toNat ∧
    ∀ i, i < (4 : Word).toNat → 0x10 ≠ ((0xFFFFFFFE : Word) + BitVec.ofNat 32 i).toNat := by decide

/-- A channel ready to transfer, asked by a request, a trigger and `START`. -/
theorem witness_TransferCopiesAndFlags :
    Memory.wf busy.mem = true ∧ busy.dma.en = true ∧ touchesWindow busy.cfg 0x1000 0x1001 2 = false ∧ (2 : Word) ≠ 0 ∧
    chanAt busy (1 : BitVec 16).toNat = some ⟨0x1000, 0x1001, 2, true, true, false⟩ ∧
    chanAt busy (1 : Word).toNat = some ⟨0x1000, 0x1001, 2, true, true, false⟩ ∧
    chanAt busy (1 : BitVec 3).toNat = some ⟨0x1000, 0x1001, 2, true, true, false⟩ ∧
    (7 : Word).getLsbD 0 = true ∧ (7 : Word).getLsbD 1 = true := by decide

/-- The first channel the block does not have; a channel that is off and has no count; a controller that is off; a channel
whose last byte touches a window. -/
theorem witness_RequestsDroppedWithoutTransfer :
    busy.cfg.nDmaCh ≤ (2 : Word).toNat ∧ busy.cfg.nDmaCh ≤ (2 : BitVec 16).toNat ∧
    chanAt busy (0 : BitVec 16).toNat = some DmaChannel.reset ∧ DmaChannel.reset.enabled = false ∧
    DmaChannel.reset.count = 0 ∧ (dmaWith false ch0).dma.en = false ∧ chanAt (dmaWith false ch0) (0 : Word).toNat = some ch0 ∧
    (chanAt busy (0 : BitVec 3).toNat = some DmaChannel.reset ∧ (3 : Word).getLsbD 1 = true ∧ (0xE : Word).getLsbD 1 = true ∧
      (0xE : Word).getLsbD 0 = false) ∧
    (chanAt placed (0 : BitVec 16).toNat = some ch0 ∧ chanAt placed (0 : BitVec 3).toNat = some ch0 ∧
      chanAt placed (0 : Word).toNat = some ch0 ∧ ch0.enabled = true ∧ ch0.count ≠ 0 ∧ placed.dma.en = true ∧
      touchesWindow placed.cfg ch0.src ch0.dst ch0.count = true ∧ touchesWindow placed.cfg ch0.src ch0.dst 3 = false) := by
  decide

theorem witness_IntcRegistersStoreAndRead :
    busy.cfg.nIrqSrc ≤ 32 ∧ prioAt busy (3 : BitVec 5).toNat = some 5 ∧ R.cfg.nIrqSrc ≤ 32 ∧
    prioAt R (31 : BitVec 5).toNat = some 0 := by decide

/-- The first source the block does not have, the last it has. -/
theorem witness_SourceEventMirrorsLevel :
    busy.cfg.nIrqSrc ≤ 32 ∧ busy.cfg.nIrqSrc ≤ (4 : BitVec 16).toNat ∧ (3 : BitVec 16).toNat < busy.cfg.nIrqSrc := by decide

theorem witness_ReadModifyWriteClearsFlags :
    busy.Inv ∧ busy.cfg.gpioExt = true ∧ cmpAt busy (0 : BitVec 4).toNat = some ⟨10, true, false, true⟩ ∧
    chanAt busy (1 : BitVec 3).toNat = some ⟨0x1000, 0x1001, 2, true, true, false⟩ := by decide

end Sys2Proof.Tests
end

section
/-! What a stimulus to one window leaves alone (R19): `Confined` on states, `StaysIn` on outcomes, one rule per shared operation, then one case per stimulus. -/

namespace Sys2Proof.Machine

/-! ## The frame as a relation that composes -/

theorem OnlyWindow.refl (w : Window) (s : State) : OnlyWindow w s s := ⟨rfl, rfl, fun x _ => ⟨windowSame_refl x s, rfl⟩⟩

theorem OnlyWindow.trans {w : Window} {s t u : State} (h : OnlyWindow w s t) (h' : OnlyWindow w t u) : OnlyWindow w s u := by
  obtain ⟨hcfg, hinput, hwin⟩ := h
  obtain ⟨hcfg', hinput', hwin'⟩ := h'
  exact ⟨hcfg'.trans hcfg, hinput'.trans hinput, fun x hx =>
    ⟨windowSame_trans (hwin x hx).1 (hwin' x hx).1, (hwin' x hx).2.trans (hwin x hx).2⟩⟩

/-- From `s` to `t` nothing outside window `w` has changed, and `Mem` only where `moves` allows it. -/
def Confined (w : Window) (moves : Bool) (s t : State) : Prop :=
  OnlyWindow w s t ∧ (moves = false → t.mem = s.mem)

/-- Every next state that an outcome answers is confined to `w`. -/
def StaysIn (w : Window) (moves : Bool) (s : State) (o : Host.Outcome State Fault Refusal) : Prop :=
  ∀ t, o = .next t → Confined w moves s t

section
variable {w : Window} {moves : Bool} {s t u : State}

theorem OnlyWindow.confined (h : OnlyWindow w s t) (hm : t.mem = s.mem) : Confined w moves s t := ⟨h, fun _ => hm⟩

theorem Confined.refl (w : Window) (moves : Bool) (s : State) : Confined w moves s s := (OnlyWindow.refl w s).confined rfl

theorem Confined.trans (h : Confined w moves s t) (h' : Confined w moves t u) : Confined w moves s u :=
  ⟨h.1.trans h'.1, fun hm => (h'.2 hm).trans (h.2 hm)⟩

theorem Confined.ite {p : Prop} [Decidable p] (h : Confined w moves s t) (h' : Confined w moves s u) :
    Confined w moves s (if p then t else u) := by
  split
  · exact h
  · exact h'

theorem PortStep.confined {x : Serial} (h : PortStep x s t) : Confined (serialWindow x) moves s t := by
  refine h.frame.1.confined ?_
  obtain ⟨p, outs, rfl⟩ := h
  simp

theorem confined_ret (r : Result) : Confined w moves s (ret r s) :=
  OnlyWindow.confined ⟨rfl, rfl, fun x _ => ⟨windowSame_ret x r s, lineOf_ret x r s⟩⟩ rfl

theorem confined_emit (o : Output) : Confined w moves s (emit o s) :=
  OnlyWindow.confined ⟨rfl, rfl, fun x _ => ⟨by cases x <;> rfl, lineOf_emit x o s⟩⟩ rfl

theorem confined_warn (c : Warning) : Confined w moves s (warn c s) := confined_emit (.warn c)

theorem confined_updateInterrupts : Confined w moves s (updateInterrupts w s) :=
  OnlyWindow.confined
    ⟨updateInterrupts_cfg w s, updateInterrupts_input w s, fun x hx =>
      ⟨windowSame_updateInterrupts x w s, lineOf_lineSet_ne hx _ s⟩⟩
    (updateInterrupts_mem w s)

theorem confined_rbReset : Confined w moves s (rbReset w s) := (rbReset_frame w s).1.confined (by cases w <;> rfl)

/-! ## Updates of one window's component state -/

theorem confined_gpio (x : Gpio) : Confined .gpio moves s { s with gpio := x } := (onlyWindow_gpio s x).confined rfl
theorem confined_uart (x : Uart) : Confined .uart moves s { s with uart := x } := (onlyWindow_uart s x).confined rfl
theorem confined_u16 (x : Uart16550) : Confined .uart16550 moves s { s with u16 := x } := (onlyWindow_uart16550 s x).confined rfl
theorem confined_spi (x : Spi) : Confined .spi moves s { s with spi := x } := (onlyWindow_spi s x).confined rfl
theorem confined_i2c (x : I2c) : Confined .i2c moves s { s with i2c := x } := (onlyWindow_i2c s x).confined rfl
theorem confined_timer (x : Timer) : Confined .timer moves s { s with timer := x } := (onlyWindow_timer s x).confined rfl
theorem confined_dma (x : Dma) : Confined .dma moves s { s with dma := x } := (onlyWindow_dma s x).confined rfl
theorem confined_intc (x : Intc) : Confined .intc moves s { s with intc := x } := (onlyWindow_intc s x).confined rfl

theorem confined_clearFifo (q : FifoId) : Confined (serialWindow q.core) moves s (clearFifo q s) := by
  obtain ⟨core, dir⟩ := q
  cases dir <;> exact (PortStep.setPort core _ s).confined

theorem confined_modifyCmp (k : Nat) (f : Cmp → Cmp) : Confined .timer moves s (modifyCmp k f s) := by
  unfold modifyCmp
  split
  · exact confined_timer _
  · exact .refl ..

theorem confined_modifyChan (n : Nat) (f : DmaChannel → DmaChannel) : Confined .dma moves s (modifyChan n f s) := by
  unfold modifyChan
  split
  · exact confined_dma _
  · exact .refl ..

/-! ## Completion -/

theorem Confined.staysIn_next (h : Confined w moves s t) : StaysIn w moves s (.next t) := by
  rintro _ ⟨⟩
  exact h

theorem staysIn_refused (r : Refusal) : StaysIn w moves s (.refused r) := by
  rintro _ ⟨⟩

theorem Confined.staysIn_done (h : Confined w moves s t) : StaysIn w moves s (done t) :=
  (h.trans (confined_ret _)).staysIn_next

theorem Confined.staysIn_doneWord (v : Word) (h : Confined w moves s t) : StaysIn w moves s (doneWord v t) :=
  (h.trans (confined_ret _)).staysIn_next

theorem Confined.staysIn_hook (h : Confined w moves s t) : StaysIn w moves s (hook w t) :=
  (h.trans confined_updateInterrupts).staysIn_done

theorem staysIn_pureRead (v : Word) : StaysIn w moves s (doneWord v s) := (Confined.refl w moves s).staysIn_doneWord v

theorem staysIn_unmatchedRead (off : Nat) : StaysIn w moves s (unmatchedRead off s) := (confined_warn _).staysIn_doneWord 0

theorem staysIn_unmatchedWrite (off : Nat) : StaysIn w moves s (unmatchedWrite off s) := (confined_warn _).staysIn_done

theorem StaysIn.andThen {o : Host.Outcome State Fault Refusal} {f : State → Host.Outcome State Fault Refusal}
    (ho : StaysIn w moves s o) (hf : ∀ t, Confined w moves s t → StaysIn w moves s (f t)) :
    StaysIn w moves s (andThen o f) := by
  intro u hu
  obtain ⟨t, ht, hu⟩ := andThen_eq_next.mp hu
  exact hf t (ho t ht) u hu

theorem StaysIn.andThen_hook {o : Host.Outcome State Fault Refusal} (ho : StaysIn w moves s o) :
    StaysIn w moves s (Machine.andThen o (hook w)) :=
  ho.andThen fun _ ht => ht.staysIn_hook

theorem StaysIn.after {o : Host.Outcome State Fault Refusal} (h : Confined w moves s t) (ho : StaysIn w moves t o) :
    StaysIn w moves s o := fun u hu => h.trans (ho u hu)

end

/-! ## The GPIO extension and the DMA request -/

theorem staysIn_gpioExtRead (moves : Bool) (off : Nat) (x : Word) (s : State) : StaysIn .gpio moves s (gpioExtRead off x s) := by
  unfold gpioExtRead
  split
  · exact staysIn_pureRead _
  · exact staysIn_unmatchedRead off

theorem staysIn_gpioExtWrite (moves : Bool) (off : Nat) (g : Gpio) (s : State) :
    StaysIn .gpio moves s (gpioExtWrite off g s) := by
  unfold gpioExtWrite
  split
  · exact (confined_gpio g).staysIn_hook
  · exact staysIn_unmatchedWrite off

/-- A transfer moves memory; beside it only a channel's flag and the trace change. -/
theorem confined_dmaTransfer (n : Nat) (c : DmaChannel) (s : State) : Confined .dma true s (dmaTransfer n c s) := by
  have hmem : Confined .dma true s { s with mem := memCopy s.mem c.src c.dst c.count } :=
    ⟨⟨rfl, rfl, fun x _ => by cases x <;> exact ⟨rfl, rfl⟩⟩, nofun⟩
  have hcopy := hmem.trans (confined_emit (.memcopy c.src c.dst c.count))
  exact (hcopy.trans (confined_dma _)).ite hcopy

theorem staysIn_dchTrigger (n : Nat) (c : DmaChannel) (s : State) : StaysIn .dma true s (dchTrigger n c s) := by
  rcases dchTrigger_cases n c s with ⟨_, h⟩ | ⟨_, _, _, h⟩ | ⟨_, _, _, h⟩ <;> rw [h]
  · exact (Confined.refl ..).staysIn_next
  · exact staysIn_refused _
  · exact ((confined_dmaTransfer n c s).trans confined_updateInterrupts).staysIn_next

theorem staysIn_dmaRequest (n : Nat) (s : State) : StaysIn .dma true s (dmaRequest n s) := by
  rcases dmaRequest_cases n s with ⟨_, h⟩ | ⟨c, _, _, h⟩ | ⟨c, _, _, h⟩ <;> rw [h]
  · exact (confined_warn _).staysIn_next
  · exact (Confined.refl ..).staysIn_next
  · exact staysIn_dchTrigger n c s

/-! ## The bank: an access reaches only fields of its own window -/

/-- The window whose bank holds a field (R36 to R84). -/
def FieldId.window : FieldId → Window
  | .gpioData | .gpioDir | .gpioIe | .gpioIs | .gpioIt | .gpioIp | .gpioEdge => .gpio
  | .data w | .txEmpty w | .txFull w | .rxEmpty w | .rxFull w | .overrun w => serialWindow w
  | .uartTxEn | .uartRxEn | .uartTxIe | .uartRxIe | .uartOvrIe | .uartRxTrig | .uartTxTrig | .uartDiv => .uart
  | .rbr | .thr | .dll | .dlh | .erbfi | .etbei | .elsi | .iirNopend | .iirId | .iirFifoEn
  | .fcrFifoEn | .fcrRxClr | .fcrTxClr | .fcrRxTrig | .lcr | .lsrDr | .lsrOe | .lsrThre | .lsrTemt => .uart16550
  | .spiEn | .spiLoopback | .spiMode | .spiTxIe | .spiRxIe | .spiOvrIe | .spiRxTrig | .spiTxTrig => .spi
  | .i2cEn | .i2cStart | .i2cStop | .i2cAck | .i2cTxIe | .i2cRxIe | .i2cOvrIe | .i2cSlaveAddr | .i2cRxTrig | .i2cTxTrig
  | .i2cDiv => .i2c
  | .timerEn | .timerOneshot | .timerOvfIe | .timerValue | .timerLimit | .timerPrescaler | .timerOvf
  | .cmpTarget _ | .cmpEn _ | .cmpPend _ => .timer
  | .dmaEn | .chSrc _ | .chDst _ | .chCount _ | .chEn _ | .chStart _ | .chIe _ | .chIf _ => .dma
  | .intcEnable | .intcPending | .intcPrio _ => .intc

theorem window_of_mem_registersOf {c : Config} {w : Window} {r : Register} {f : FieldId} (hr : r ∈ registersOf c w)
    (hf : f ∈ r.fields) : f.window = w := by
  have h : ∀ r ∈ registersOf c w, ∀ f ∈ r.fields, f.window = w := by
    cases w <;> simp only [registersOf, regAt, statusFields, List.forall_mem_append, List.forall_mem_cons,
      List.forall_mem_flatMap, List.forall_mem_map, List.not_mem_nil, IsEmpty.forall_iff, implies_true, and_true]
    case gpio => cases c.gpioExt <;> decide
    case uart | uart16550 | spi | i2c => decide
    case timer => exact ⟨by decide, fun k _ => ⟨rfl, rfl, rfl⟩⟩
    case dma => exact ⟨rfl, fun n _ => ⟨rfl, rfl, rfl, rfl, rfl, rfl, rfl⟩⟩
    case intc => exact ⟨by decide, fun n _ => rfl⟩
  exact h r hr f hf

theorem mem_registersOf_of_lookup {c : Config} {sel isRead : Bool} {w : Window} {off : Nat} {r : Register}
    (h : lookup c sel w isRead off = some r) : r ∈ registersOf c w := by
  unfold lookup at h
  split at h
  · cases h
  · exact List.mem_of_find?_eq_some h

theorem confined_fieldEffect (moves : Bool) (f : FieldId) (s : State) : Confined f.window moves s (fieldEffect f s) := by
  unfold fieldEffect
  split
  · exact (serDataRead_portStep _ s).confined
  · exact (serDataRead_portStep .uart16550 s).confined
  · exact (clearOverrun_portStep .uart16550 s).confined
  · exact .refl ..

theorem confined_applyField (moves : Bool) (f : FieldId) (sub : Word) (s : State) :
    Confined f.window moves s (applyField f sub s) := by
  cases f with
  | gpioData | gpioDir | gpioIe | gpioIs | gpioIt | gpioIp | gpioEdge => exact confined_gpio _
  | data x => exact (serDataWrite_portStep x _ s).confined
  | overrun x => exact (clearOverrun_portStep x s).confined.ite (.refl ..)
  | uartTxEn | uartRxEn | uartTxIe | uartRxIe | uartOvrIe | uartRxTrig | uartTxTrig => exact confined_uart _
  | uartDiv => exact (confined_warn _).ite (confined_uart _)
  | thr => exact (serDataWrite_portStep .uart16550 _ s).confined
  | dll | dlh | erbfi | etbei | elsi | fcrFifoEn | fcrRxTrig | lcr => exact confined_u16 _
  | fcrRxClr | fcrTxClr => exact (confined_clearFifo _).ite (.refl ..)
  | spiEn | spiLoopback | spiMode | spiTxIe | spiRxIe | spiOvrIe | spiRxTrig | spiTxTrig => exact confined_spi _
  | i2cEn | i2cStart | i2cStop | i2cAck | i2cTxIe | i2cRxIe | i2cOvrIe | i2cSlaveAddr | i2cRxTrig | i2cTxTrig =>
    exact confined_i2c _
  | i2cDiv => exact (confined_warn _).ite (confined_i2c _)
  | timerEn | timerOneshot | timerOvfIe | timerValue | timerLimit => exact confined_timer _
  | timerPrescaler => exact (confined_warn _).ite (confined_timer _)
  | timerOvf => exact (confined_timer _).ite (.refl ..)
  | cmpTarget k | cmpEn k => exact confined_modifyCmp k _
  | cmpPend k => exact (confined_modifyCmp k _).ite (.refl ..)
  | dmaEn => exact confined_dma _
  | chSrc n | chDst n | chCount n | chEn n | chIe n => exact confined_modifyChan n _
  | chIf n => exact (confined_modifyChan n _).ite (.refl ..)
  | intcEnable | intcPrio => exact confined_intc _
  | txEmpty | txFull | rxEmpty | rxFull | rbr | iirNopend | iirId | iirFifoEn | lsrDr | lsrOe | lsrThre | lsrTemt | chStart
  | intcPending => exact .refl ..

theorem confined_readSteps {w : Window} (moves : Bool) : ∀ (fs : List FieldId) (p : Word × State),
    (∀ f ∈ fs, f.window = w) → Confined w moves p.2 (fs.foldl readStep p).2
  | [], _, _ => .refl ..
  | f :: fs, p, h => by
    obtain ⟨hf, hfs⟩ := List.forall_mem_cons.mp h
    have hstep : Confined w moves p.2 (readStep p f).2 := hf ▸ confined_fieldEffect moves f p.2
    exact hstep.trans (confined_readSteps moves fs _ hfs)

theorem confined_writeSteps {w : Window} (moves : Bool) (v : Word) : ∀ (fs : List FieldId) (s : State),
    (∀ f ∈ fs, f.window = w) → Confined w moves s (fs.foldl (writeStep v) s)
  | [], _, _ => .refl ..
  | f :: fs, s, h => by
    obtain ⟨hf, hfs⟩ := List.forall_mem_cons.mp h
    have hstep : Confined w moves s (writeStep v s f) := hf ▸ confined_applyField moves f _ s
    exact hstep.trans (confined_writeSteps moves v fs _ hfs)

theorem staysIn_rbRead (moves : Bool) (w : Window) (off : Nat) (s : State) : StaysIn w moves s (rbRead w off s) := by
  unfold rbRead
  split
  · exact staysIn_unmatchedRead off
  next r hr =>
    have hread := confined_readSteps moves r.fields (0, s) fun f hf =>
      window_of_mem_registersOf (mem_registersOf_of_lookup hr) hf
    exact ((hread.trans confined_updateInterrupts).ite hread).staysIn_doneWord _

theorem staysIn_hookAction (w : Window) (off : Nat) (v : Word) (s : State) :
    StaysIn w (w == .dma && v.getLsbD 1) s (hookAction w off v s) := by
  cases w with
  | uart => exact ((drainIfOn_portStep .uart s).confined.ite (.refl ..)).staysIn_next
  | spi => exact ((drainIfOn_portStep .spi s).confined.ite (.refl ..)).staysIn_next
  | i2c => exact ((drainIfOn_portStep .i2c s).confined.ite (.refl ..)).staysIn_next
  | dma =>
    simp only [hookAction]
    split
    next h =>
      obtain ⟨_, _, hstart⟩ := h
      rw [hstart]
      exact staysIn_dmaRequest _ s
    · exact (Confined.refl ..).staysIn_next
  | gpio | uart16550 | timer | intc => exact (Confined.refl ..).staysIn_next

theorem staysIn_rbWrite (w : Window) (off : Nat) (v : Word) (s : State) :
    StaysIn w (w == .dma && v.getLsbD 1) s (rbWrite w off v s) := by
  unfold rbWrite
  split
  · exact staysIn_unmatchedWrite off
  next r hr =>
    have hwrite := confined_writeSteps (w == .dma && v.getLsbD 1) v r.fields s fun f hf =>
      window_of_mem_registersOf (mem_registersOf_of_lookup hr) hf
    exact (StaysIn.after hwrite (staysIn_hookAction w off v _)).andThen_hook

/-! ## The stimuli -/

/-- The write that may start a transfer: it does so only with `START` set (R451). -/
theorem staysIn_wrDmaChCtrl (n : BitVec 3) (v : Word) (s : State) :
    StaysIn .dma (v.getLsbD 1) s (execWrDmaChCtrl n v s) := by
  unfold execWrDmaChCtrl
  split
  next c _ =>
    refine StaysIn.andThen_hook (.after (t := setChan s n.toNat (setChanCtrl v c)) (confined_dma _) ?_)
    cases v.getLsbD 1
    · exact (Confined.refl ..).staysIn_next
    · exact staysIn_dmaRequest _ _
  · exact staysIn_unmatchedWrite _

theorem staysIn_wrUart16550Fcr (moves : Bool) (v : Word) (s : State) :
    StaysIn .uart16550 moves s (execWrUart16550Fcr v s) := by
  have clear (dir : FifoDir) (b : Bool) (t : State) :
      Confined .uart16550 moves t (if b then clearFifo ⟨.uart16550, dir⟩ t else t) :=
    (confined_clearFifo ⟨.uart16550, dir⟩).ite (.refl ..)
  exact Confined.staysIn_hook ((((confined_u16 _).trans (clear .rx _ _)).trans (clear .tx _ _)).trans (confined_u16 _))

/-- A stimulus to a window stays in it, and writes `Mem` only if it may make a transfer (R19, R32). -/
theorem exec_staysIn {i : Instr} {w : Window} (s : State) (hw : stimulusWindow i = some w) :
    StaysIn w (mayTransfer i) s (exec i s) := by
  cases i <;> cases hw
  case rdGpioData | rdGpioDir | rdUartStatus | rdUartControl | rdUartBaud | rdUart16550Dll | rdUart16550Ier | rdUart16550Dlh |
      rdUart16550Iir | rdUart16550Lcr | rdSpiControl | rdSpiStatus | rdI2cControl | rdI2cStatus | rdI2cClockDiv |
      rdTimerControl | rdTimerValue | rdTimerReload | rdTimerPrescaler | rdTimerStatus | rdDmaControl | rdIntcEnable |
      rdIntcPending =>
    exact staysIn_pureRead _
  case rdGpioIe | rdGpioIs | rdGpioIt | rdGpioIp | rdGpioEdge => exact staysIn_gpioExtRead _ _ _ s
  case rdUartData => exact ((serDataRead_portStep .uart s).confined.trans confined_updateInterrupts).staysIn_doneWord _
  case rdUart16550Rbr =>
    exact ((serDataRead_portStep .uart16550 s).confined.trans confined_updateInterrupts).staysIn_doneWord _
  case rdUart16550Lsr =>
    exact ((clearOverrun_portStep .uart16550 s).confined.trans confined_updateInterrupts).staysIn_doneWord _
  case rdSpiData => exact ((serDataRead_portStep .spi s).confined.trans confined_updateInterrupts).staysIn_doneWord _
  case rdI2cData => exact ((serDataRead_portStep .i2c s).confined.trans confined_updateInterrupts).staysIn_doneWord _
  case rdTimerCmpTarget | rdTimerCmpCtrl | rdDmaChSrc | rdDmaChDst | rdDmaChCount | rdDmaChCtrl | rdIntcPriority =>
    simp only [exec, execRdTimerCmpTarget, execRdTimerCmpCtrl, execRdDmaChSrc, execRdDmaChDst, execRdDmaChCount,
      execRdDmaChCtrl, execRdIntcPriority]
    split
    · exact staysIn_pureRead _
    · exact staysIn_unmatchedRead _
  case wrGpioData | wrGpioDir => exact (confined_gpio _).staysIn_hook
  case wrGpioIe | wrGpioIs | wrGpioIt | wrGpioIp | wrGpioEdge => exact staysIn_gpioExtWrite _ _ _ s
  case evGpioPin =>
    simp only [exec, execEvGpioPin]
    split
    · exact (confined_warn _).staysIn_done
    · exact (confined_gpio _).staysIn_hook
  case evGpioReset => exact (confined_rbReset.trans (confined_gpio _)).staysIn_hook
  case wrUartData => exact (serDataWrite_portStep .uart _ s).confined.staysIn_hook
  case wrUartStatus => exact ((clearOverrun_portStep .uart s).confined.ite (.refl ..)).staysIn_hook
  case wrUartControl => exact ((confined_uart _).trans (drainIfOn_portStep .uart _).confined).staysIn_hook
  case wrUartBaud => exact ((confined_warn _).ite (confined_uart _)).staysIn_hook
  case evUartRxChar b => exact (serRxChar_portStep .uart b s).confined.staysIn_hook
  case evUartReset => exact (confined_rbReset.trans (PortStep.setPort .uart _ _).confined).staysIn_hook
  case wrUart16550Thr => exact (serDataWrite_portStep .uart16550 _ s).confined.staysIn_hook
  case wrUart16550Dll | wrUart16550Ier | wrUart16550Dlh | wrUart16550Lcr | evUart16550SetMap =>
    exact (confined_u16 _).staysIn_hook
  case wrUart16550Fcr => exact staysIn_wrUart16550Fcr _ _ s
  case wrUart16550Lsr => exact (Confined.refl ..).staysIn_hook
  case evUart16550RxChar b => exact (serRxChar_portStep .uart16550 b s).confined.staysIn_hook
  case evUart16550Reset =>
    exact ((confined_rbReset.trans (PortStep.setPort .uart16550 _ _).confined).trans (confined_u16 _)).staysIn_hook
  case wrSpiControl => exact ((confined_spi _).trans (drainIfOn_portStep .spi _).confined).staysIn_hook
  case wrSpiData => exact (serDataWrite_portStep .spi _ s).confined.staysIn_hook
  case wrSpiStatus => exact ((clearOverrun_portStep .spi s).confined.ite (.refl ..)).staysIn_hook
  case evSpiRxChar b => exact (serRxChar_portStep .spi b s).confined.staysIn_hook
  case evSpiReset => exact (confined_rbReset.trans (PortStep.setPort .spi _ _).confined).staysIn_hook
  case wrI2cControl => exact ((confined_i2c _).trans (drainIfOn_portStep .i2c _).confined).staysIn_hook
  case wrI2cData => exact (serDataWrite_portStep .i2c _ s).confined.staysIn_hook
  case wrI2cStatus => exact ((clearOverrun_portStep .i2c s).confined.ite (.refl ..)).staysIn_hook
  case wrI2cClockDiv => exact ((confined_warn _).ite (confined_i2c _)).staysIn_hook
  case evI2cRxChar b => exact (serRxChar_portStep .i2c b s).confined.staysIn_hook
  case evI2cReset => exact (confined_rbReset.trans (PortStep.setPort .i2c _ _).confined).staysIn_hook
  case wrTimerControl | wrTimerValue | wrTimerReload | evTimerTick => exact (confined_timer _).staysIn_hook
  case wrTimerPrescaler => exact ((confined_warn _).ite (confined_timer _)).staysIn_hook
  case wrTimerStatus => exact ((confined_timer _).ite (.refl ..)).staysIn_hook
  case wrTimerCmpTarget | wrTimerCmpCtrl =>
    simp only [exec, execWrTimerCmpTarget, execWrTimerCmpCtrl]
    split
    · exact (confined_timer _).staysIn_hook
    · exact staysIn_unmatchedWrite _
  case evTimerReset => exact (confined_rbReset.trans (confined_timer _)).staysIn_hook
  case wrDmaControl => exact (confined_dma _).staysIn_hook
  case wrDmaChSrc | wrDmaChDst | wrDmaChCount =>
    simp only [exec, execWrDmaChSrc, execWrDmaChDst, execWrDmaChCount]
    split
    · exact (confined_dma _).staysIn_hook
    · exact staysIn_unmatchedWrite _
  case wrDmaChCtrl => exact staysIn_wrDmaChCtrl _ _ s
  case evDmaReq => exact (staysIn_dmaRequest _ s).andThen_hook
  case evDmaReset => exact (confined_rbReset.trans (confined_dma _)).staysIn_hook
  case wrIntcEnable => exact (confined_intc _).staysIn_hook
  case wrIntcPending => exact (Confined.refl ..).staysIn_hook
  case wrIntcPriority =>
    simp only [exec, execWrIntcPriority]
    split
    · exact (confined_intc _).staysIn_hook
    · exact staysIn_unmatchedWrite _
  case evIntcSrc =>
    simp only [exec, execEvIntcSrc]
    split
    · exact (confined_warn _).staysIn_done
    · exact (confined_intc _).staysIn_hook
  case evIntcReset => exact (confined_rbReset.trans (confined_intc _)).staysIn_hook
  case opRbRead => exact staysIn_rbRead _ _ _ s
  case opRbWrite => exact staysIn_rbWrite _ _ _ s

/-- Settles O30: every stimulus to a window stays in it (`exec_staysIn`). -/
theorem windowsAreIndependent : Obligations.WindowsAreIndependent := by
  intro i w s t hw hexec
  obtain ⟨honly, hmem⟩ := exec_staysIn s hw t hexec
  exact ⟨honly, fun hno a => by rw [hmem hno]⟩

/-! ## One step -/

theorem step_of_no_input {s : State} (hin : s.input = []) : step s = .next s := by simp only [step, hin]

theorem step_of_decode_ok {s : State} {r : RawStimulus} {rs : List RawStimulus} {i : Instr} (hin : s.input = r :: rs)
    (hdec : decode s.u16.mapSel r = .ok i) : step s = exec i { s with input := rs } := by
  simp only [step, hin, hdec]

theorem step_of_decode_error {s : State} {r : RawStimulus} {rs : List RawStimulus} {e : DecodeError}
    (hin : s.input = r :: rs) (hdec : decode s.u16.mapSel r = .error e) : step s = .refused (.notAStimulus e) := by
  simp only [step, hin, hdec]

/-- Settles O5: the three arms of `step`. -/
theorem stepExecutesDecodedStimulus : Obligations.StepExecutesDecodedStimulus := fun _ _ _ _ _ =>
  ⟨fun hin hdec _ => step_of_decode_ok hin hdec, step_of_decode_error, step_of_no_input⟩

end Sys2Proof.Machine
end

section
/-! What every operation of the model keeps: the invariant read window by window (`WindowOk`, `inv_iff`), and the relation `Advances`, with one rule per shared operation. -/

namespace Sys2Proof.Machine

/-! ## Bits within a mask (R36, R81, R320) -/

/-- No bit of `x` lies outside the mask `m`. -/
abbrev Within (m x : Word) : Prop := x &&& ~~~m = 0

section
variable {m x y : Word}

theorem within_iff : Within m x ↔ ∀ i, x.getLsbD i = true → m.getLsbD i = true := by
  constructor
  · intro h i hx
    have hi := BitVec.lt_of_getLsbD hx
    simpa [hx, hi] using congrArg (fun v : Word => v.getLsbD i) h
  · intro h
    refine BitVec.eq_of_getLsbD_eq fun i hi => ?_
    cases hx : x.getLsbD i with
    | false => simp [hx]
    | true => simp [hx, h i hx]

theorem within_zero : Within m 0 := BitVec.zero_and

theorem within_and_mask (v : Word) : Within m (v &&& m) :=
  within_iff.mpr fun i h => by
    rw [BitVec.getLsbD_and, Bool.and_eq_true] at h
    exact h.2

theorem Within.and_left (h : Within m x) (y : Word) : Within m (x &&& y) :=
  within_iff.mpr fun i hi => by
    rw [BitVec.getLsbD_and, Bool.and_eq_true] at hi
    exact within_iff.mp h i hi.1

theorem Within.or (hx : Within m x) (hy : Within m y) : Within m (x ||| y) :=
  within_iff.mpr fun i h => by
    rw [BitVec.getLsbD_or, Bool.or_eq_true] at h
    exact h.elim (within_iff.mp hx i) (within_iff.mp hy i)

theorem getLsbD_maskWord (n i : Nat) : (maskWord n).getLsbD i = (decide (i < 32) && decide (i < n)) := by
  simp [maskWord, BitVec.getLsbD_ofNat, Nat.testBit_two_pow_sub_one]

theorem Within.setBit {n i : Nat} (h : Within (maskWord n) x) (hi : i < n) (b : Bool) :
    Within (maskWord n) (Machine.setBit x i b) := by
  cases b with
  | false => exact h.and_left _
  | true =>
    refine h.or (within_iff.mpr fun j hj => ?_)
    have hij : j < 32 ∧ j = i := by
      have hlt := BitVec.lt_of_getLsbD hj
      simp [hlt] at hj
      omega
    rw [getLsbD_maskWord]
    simp [hij.1, hij.2 ▸ hi]

end

/-- What a write gives a field of `n` bits stays within the `n` bits (R116). -/
theorem within_extractField (v : Word) (lo n : Nat) : Within (maskWord n) (extractField v lo n) := within_and_mask _

/-- A field as wide as the parameter it implements: a descriptor's width has 8 bits, and R8 allows at most 32. -/
theorem within_extractField_ofNat {n : Nat} (hn : n ≤ 32) (v : Word) (lo : Nat) :
    Within (maskWord n) (extractField v lo (BitVec.ofNat 8 n).toNat) := by
  have hw : (BitVec.ofNat 8 n).toNat = n := by
    rw [BitVec.toNat_ofNat]
    omega
  rw [hw]
  exact within_extractField v lo n

/-- A divisor field that is written nonzero is stored nonzero (R357, R406). -/
theorem setWidth_extractField_ne_zero {v : Word} {lo : Nat} (h : extractField v lo 16 ≠ 0) :
    (extractField v lo 16).setWidth 16 ≠ 0 := by
  intro h0
  refine h (BitVec.eq_of_getLsbD_eq fun i hi => ?_)
  by_cases hi16 : i < 16
  · simpa [hi16] using congrArg (fun d : BitVec 16 => d.getLsbD i) h0
  · simp [extractField, getLsbD_maskWord, hi16]

theorem one_le_toNat {v : Word} (h : v ≠ 0) : 1 ≤ v.toNat :=
  Nat.one_le_iff_ne_zero.mpr fun h0 => h (BitVec.eq_of_toNat_eq h0)

/-! ## The invariant, window by window -/

/-- No GPIO vector has a bit above the implemented pins (R36). -/
structure GpioOk (c : Config) (g : Gpio) : Prop where
  inp  : Within (gpioMask c) g.inp
  out  : Within (gpioMask c) g.out
  dir  : Within (gpioMask c) g.dir
  ie   : Within (gpioMask c) g.ie
  is   : Within (gpioMask c) g.is
  it   : Within (gpioMask c) g.it
  ip   : Within (gpioMask c) g.ip
  edge : Within (gpioMask c) g.edge

/-- The compare channels are all there, and the prescale count is below the prescaler (R28, R86 (b)). -/
structure TimerFits (c : Config) (t : Timer) : Prop where
  cmps  : t.cmp.length = c.nCmp
  presc : TimerOk t

/-- The priorities are all there, and no bit stands above the implemented sources (R81). -/
structure IntcOk (c : Config) (x : Intc) : Prop where
  prios   : x.prio.length = c.nIrqSrc
  enable  : Within (irqMask c) x.enable
  pending : Within (irqMask c) x.pending

/-- The port of a serial window is as `PortOk` asks. -/
abbrev SerialOk (x : Serial) (s : State) : Prop := PortOk s.cfg.fifoCap (policyOf x s.cfg) (portOf x s)

/-- What the invariant asks of one window. -/
def WindowOk (w : Window) (s : State) : Prop :=
  match w with
  | .gpio => GpioOk s.cfg s.gpio
  | .uart => SerialOk .uart s ∧ s.uart.div ≠ 0
  | .uart16550 => SerialOk .uart16550 s
  | .spi => SerialOk .spi s
  | .i2c => SerialOk .i2c s ∧ s.i2c.div ≠ 0
  | .timer => TimerFits s.cfg s.timer
  | .dma => s.dma.ch.length = s.cfg.nDmaCh
  | .intc => IntcOk s.cfg s.intc

/-- The invariant is a legal configuration, every window as it should be, and canonical memory. -/
theorem inv_iff {s : State} : s.Inv ↔ s.cfg.Legal ∧ (∀ w, WindowOk w s) ∧ Memory.wf s.mem = true := by
  constructor
  · rintro ⟨hlegal, ⟨hcmp, hch, hprio⟩, ⟨huart, hu16, hspi, hi2c⟩, htimer,
      ⟨hinp, hout, hdir, hie, his, hit, hip, hedge, hen, hpend⟩, ⟨hbaud, hclk⟩, hmem⟩
    refine ⟨hlegal, fun w => ?_, hmem⟩
    cases w with
    | gpio => exact ⟨hinp, hout, hdir, hie, his, hit, hip, hedge⟩
    | uart => exact ⟨huart, hbaud⟩
    | uart16550 => exact hu16
    | spi => exact hspi
    | i2c => exact ⟨hi2c, hclk⟩
    | timer => exact ⟨hcmp, htimer⟩
    | dma => exact hch
    | intc => exact ⟨hprio, hen, hpend⟩
  · rintro ⟨hlegal, hw, hmem⟩
    obtain ⟨hinp, hout, hdir, hie, his, hit, hip, hedge⟩ := hw .gpio
    obtain ⟨huart, hbaud⟩ := hw .uart
    obtain ⟨hi2c, hclk⟩ := hw .i2c
    obtain ⟨hcmp, htimer⟩ := hw .timer
    obtain ⟨hprio, hen, hpend⟩ := hw .intc
    exact ⟨hlegal, ⟨hcmp, hw .dma, hprio⟩, ⟨huart, hw .uart16550, hw .spi, hi2c⟩, htimer,
      ⟨hinp, hout, hdir, hie, his, hit, hip, hedge, hen, hpend⟩, ⟨hbaud, hclk⟩, hmem⟩

theorem windowOk_congr {w : Window} {s t : State} (hc : t.cfg = s.cfg) (h : windowSame w s t) (hs : WindowOk w s) :
    WindowOk w t := by
  cases s; cases t
  cases w <;> (simp only [windowSame] at h hc; subst h hc; exact hs)

/-! ## How the operations advance the block -/

/-- What every operation of the model keeps from `s` to `t`: the parameters and the queue of stimuli stay, the trace grows,
`Mem` stays unless `moves`, and the invariant is kept. -/
structure Advances (moves : Bool) (s t : State) : Prop where
  cfg   : t.cfg = s.cfg
  input : t.input = s.input
  trace : s.trace <+: t.trace
  mem   : moves = false → t.mem = s.mem
  inv   : s.Inv → t.Inv

section
variable {w : Window} {moves : Bool} {s t u : State}

theorem Advances.refl (moves : Bool) (s : State) : Advances moves s s := ⟨rfl, rfl, List.prefix_rfl, fun _ => rfl, id⟩

theorem Advances.trans (h : Advances moves s t) (h' : Advances moves t u) : Advances moves s u :=
  ⟨h'.cfg.trans h.cfg, h'.input.trans h.input, h.trace.trans h'.trace, fun hm => (h'.mem hm).trans (h.mem hm),
    fun hi => h'.inv (h.inv hi)⟩

theorem Advances.ite {p : Prop} [Decidable p] (h : p → Advances moves s t) (h' : ¬p → Advances moves s u) :
    Advances moves s (if p then t else u) := by
  split
  · exact h ‹_›
  · exact h' ‹_›

/-- A change of one window advances the block when it keeps that window as the invariant asks. -/
theorem OnlyWindow.advances (h : OnlyWindow w s t) (hmem : t.mem = s.mem) (htrace : s.trace <+: t.trace)
    (hok : s.cfg.Legal → WindowOk w s → WindowOk w t) : Advances moves s t := by
  obtain ⟨hcfg, hinput, hother⟩ := h
  refine ⟨hcfg, hinput, htrace, fun _ => hmem, fun hi => ?_⟩
  obtain ⟨hlegal, hwin, hwf⟩ := inv_iff.mp hi
  refine inv_iff.mpr ⟨hcfg ▸ hlegal, fun x => ?_, hmem ▸ hwf⟩
  by_cases hx : x = w
  · exact hx ▸ hok hlegal (hwin w)
  · exact windowOk_congr hcfg (hother x hx).1 (hwin x)

theorem advances_emit (o : Output) : Advances moves s (emit o s) :=
  (confined_emit (w := .gpio) (moves := false) o).1.advances rfl (List.prefix_append _ _) fun _ h => h

theorem advances_warn (c : Warning) : Advances moves s (warn c s) := advances_emit (.warn c)

theorem advances_ret (r : Result) : Advances moves s (ret r s) :=
  (confined_ret (w := .gpio) (moves := false) r).1.advances rfl List.prefix_rfl fun _ h => h

theorem advances_lineSet (b : Bool) : Advances moves s (lineSet w b s) := by
  have honly : OnlyWindow w s (lineSet w b s) :=
    ⟨lineSet_cfg w b s, lineSet_input w b s, fun x hx => ⟨windowSame_lineSet x w b s, lineOf_lineSet_ne hx b s⟩⟩
  refine honly.advances (lineSet_mem w b s) ?_ fun _ => windowOk_congr (lineSet_cfg w b s) (windowSame_lineSet w w b s)
  rw [lineSet_trace]
  exact List.prefix_append _ _

theorem advances_updateInterrupts : Advances moves s (updateInterrupts w s) := advances_lineSet _

/-! ### Updates of one window's component state -/

theorem advances_gpio {x : Gpio} (h : s.cfg.Legal → GpioOk s.cfg s.gpio → GpioOk s.cfg x) :
    Advances moves s { s with gpio := x } := (onlyWindow_gpio s x).advances rfl List.prefix_rfl h

theorem advances_timer {x : Timer} (h : TimerFits s.cfg s.timer → TimerFits s.cfg x) :
    Advances moves s { s with timer := x } := (onlyWindow_timer s x).advances rfl List.prefix_rfl fun _ => h

theorem advances_dma {x : Dma} (h : x.ch.length = s.dma.ch.length := by rfl) : Advances moves s { s with dma := x } :=
  (onlyWindow_dma s x).advances rfl List.prefix_rfl fun _ => h.trans

theorem advances_intc {x : Intc} (h : s.cfg.Legal → IntcOk s.cfg s.intc → IntcOk s.cfg x) :
    Advances moves s { s with intc := x } := (onlyWindow_intc s x).advances rfl List.prefix_rfl h

theorem advances_uart {x : Uart} (hp : x.port = s.uart.port := by rfl)
    (hd : s.uart.div ≠ 0 → x.div ≠ 0 := by exact id) :
    Advances moves s { s with uart := x } :=
  (onlyWindow_uart s x).advances rfl List.prefix_rfl fun _ h => ⟨show PortOk _ _ x.port from hp ▸ h.1, hd h.2⟩

theorem advances_u16 {x : Uart16550} (hp : x.port = s.u16.port := by rfl) : Advances moves s { s with u16 := x } :=
  (onlyWindow_uart16550 s x).advances rfl List.prefix_rfl fun _ h => show PortOk _ _ x.port from hp ▸ h

theorem advances_spi {x : Spi} (hp : x.port = s.spi.port := by rfl) : Advances moves s { s with spi := x } :=
  (onlyWindow_spi s x).advances rfl List.prefix_rfl fun _ h => show PortOk _ _ x.port from hp ▸ h

theorem advances_i2c {x : I2c} (hp : x.port = s.i2c.port := by rfl)
    (hd : s.i2c.div ≠ 0 → x.div ≠ 0 := by exact id) :
    Advances moves s { s with i2c := x } :=
  (onlyWindow_i2c s x).advances rfl List.prefix_rfl fun _ h => ⟨show PortOk _ _ x.port from hp ▸ h.1, hd h.2⟩

theorem advances_setCmp (k : Nat) (c : Cmp) : Advances moves s (setCmp s k c) :=
  advances_timer fun ⟨hlen, hpre⟩ => ⟨by simpa using hlen, hpre⟩

theorem advances_setChan (n : Nat) (c : DmaChannel) : Advances moves s (setChan s n c) := advances_dma List.length_set

theorem advances_modifyCmp (k : Nat) (f : Cmp → Cmp) : Advances moves s (modifyCmp k f s) := by
  unfold modifyCmp
  split
  · exact advances_setCmp k _
  · exact .refl ..

theorem advances_modifyChan (n : Nat) (f : DmaChannel → DmaChannel) : Advances moves s (modifyChan n f s) := by
  unfold modifyChan
  split
  · exact advances_setChan n _
  · exact .refl ..

/-! ### Queues and the serial core -/

theorem advances_setPort {x : Serial} {p : Port} (h : SerialOk x s → PortOk s.cfg.fifoCap (policyOf x s.cfg) p) :
    Advances moves s (setPort x p s) := by
  refine (PortStep.setPort x p s).frame.1.advances (setPort_mem x p s) (by simp) fun _ hw => ?_
  cases x with
  | uart | i2c => exact ⟨h hw.1, hw.2⟩
  | uart16550 | spi => exact h hw

theorem advances_setFifo {q : FifoId} {b : List Byte}
    (h : (fifoOf q s).length ≤ s.cfg.fifoCap → b.length ≤ s.cfg.fifoCap) : Advances moves s (setFifo q b s) := by
  obtain ⟨x, dir⟩ := q
  cases dir with
  | tx => exact advances_setPort fun ⟨htx, hrx, hov⟩ => ⟨h htx, hrx, hov⟩
  | rx => exact advances_setPort fun ⟨htx, hrx, hov⟩ => ⟨htx, h hrx, hov⟩

theorem advances_pushFifo (q : FifoId) (b : Byte) : Advances moves s (pushFifo q b s).2 :=
  advances_setFifo (fifoPush_length b)

theorem advances_popFifo (q : FifoId) : Advances moves s (popFifo q s).2 :=
  advances_setFifo (fifoPop_length _).trans

theorem advances_clearFifo (q : FifoId) : Advances moves s (clearFifo q s) := advances_setFifo fun _ => Nat.zero_le _

theorem advances_clearOverrun (x : Serial) : Advances moves s (clearOverrun x s) :=
  advances_setPort fun ⟨htx, hrx, _⟩ => ⟨htx, hrx, fun _ => rfl⟩

theorem advances_portReset (x : Serial) : Advances moves s (portReset x s) :=
  advances_setPort fun _ => ⟨Nat.zero_le _, Nat.zero_le _, fun _ => rfl⟩

end

/-- `RXPUSH` sets the overrun flag only under `RejectAndFlag` (R297, R301). -/
theorem advances_rxPush (moves : Bool) (x : Serial) (b : Byte) (s : State) : Advances moves s (rxPush x b s) := by
  by_cases hfull : (portOf x s).rx.length = s.cfg.fifoCap
  · rw [rxPush_full b hfull]
    split
    next hpolicy =>
      refine (advances_warn .overrun).trans (advances_setPort fun ⟨htx, hrx, _⟩ => ?_)
      refine ⟨by simpa using htx, by simpa using hrx, fun hdrop => ?_⟩
      rw [warn_cfg, hpolicy] at hdrop
      cases hdrop
    · exact advances_warn .overrun
  · rw [rxPush_room b hfull, ← setFifo_rx]
    refine advances_setFifo fun hle => ?_
    rw [fifoOf_rx] at hle
    rw [List.length_append, List.length_singleton]
    omega

theorem advances_drainByte (moves : Bool) (x : Serial) (b : Byte) (s : State) : Advances moves s (drainByte x b s) :=
  .ite (fun _ => (advances_emit _).trans (advances_rxPush ..)) fun _ => advances_emit _

theorem advances_drainBytes (moves : Bool) (x : Serial) : ∀ (bs : List Byte) (s : State), Advances moves s (drainBytes x bs s)
  | [], _ => .refl ..
  | b :: bs, s => (advances_drainByte moves x b s).trans (advances_drainBytes moves x bs _)

theorem advances_serDrain (moves : Bool) (x : Serial) (s : State) : Advances moves s (serDrain x s) :=
  (advances_setFifo fun _ => Nat.zero_le _).trans (advances_drainBytes ..)

theorem advances_drainIfOn (moves : Bool) (x : Serial) (s : State) : Advances moves s (drainIfOn x s) :=
  .ite (fun _ => advances_serDrain ..) fun _ => .refl ..

theorem advances_serDataWrite (moves : Bool) (x : Serial) (b : Byte) (s : State) : Advances moves s (serDataWrite x b s) :=
  have hpush : Advances moves s (pushFifo ⟨x, .tx⟩ b s).2 := advances_pushFifo _ b
  (Advances.ite (fun _ => hpush) fun _ => hpush.trans (advances_warn .txDrop)).trans (advances_drainIfOn moves x _)

theorem advances_serDataRead (moves : Bool) (x : Serial) (s : State) : Advances moves s (serDataRead x s).2 := by
  have hpop : Advances moves s (popFifo ⟨x, .rx⟩ s).2 := advances_popFifo _
  cases hrx : (portOf x s).rx with
  | nil =>
    rw [serDataRead_nil hrx]
    exact advances_warn _
  | cons b bs =>
    rw [serDataRead_cons hrx]
    simpa [popFifo, hrx, fifoPop] using hpop

theorem advances_serRxChar (moves : Bool) (x : Serial) (b : Byte) (s : State) : Advances moves s (serRxChar x b s) :=
  .ite (fun _ => advances_rxPush ..) fun _ => .refl ..

/-! ### The timer channel -/

section
variable {c : Config} {t : Timer}

theorem TimerFits.restart (h : TimerFits c t) (a running : Bool) :
    TimerFits c { t with running := running, prescCnt := 0, cmp := rearm a t.cmp } := by
  obtain ⟨hlen, hpos, _⟩ := h
  exact ⟨(rearm_length a t.cmp).trans hlen, hpos, hpos⟩

theorem TimerFits.tchStart (h : TimerFits c t) (a : Bool) : TimerFits c (Machine.tchStart a t) := by
  unfold Machine.tchStart
  split
  · exact h
  · exact h.restart a true

theorem TimerFits.tchStop (h : TimerFits c t) : TimerFits c (Machine.tchStop t) := ⟨h.cmps, h.presc⟩

theorem TimerFits.setRunning (h : TimerFits c t) (a b : Bool) :
    TimerFits c (if b then Machine.tchStart a t else Machine.tchStop t) := by
  split
  · exact h.tchStart a
  · exact h.tchStop

theorem TimerFits.tchAdvance (h : TimerFits c t) (a : Bool) : TimerFits c (Machine.tchAdvance a t) := by
  have hlen := (rearm_length a t.cmp).trans h.cmps
  unfold Machine.tchAdvance
  dsimp only
  split
  · split <;> exact ⟨hlen, h.presc⟩
  · exact ⟨h.cmps, h.presc⟩

theorem TimerFits.tchCount (h : TimerFits c t) (a : Bool) : TimerFits c (Machine.tchCount a t) := by
  obtain ⟨hlen, hpos, _⟩ := h
  by_cases hdue : t.prescaler.toNat ≤ t.prescCnt + 1
  · rw [tchCount_advance a hdue]
    exact TimerFits.tchAdvance (t := { t with prescCnt := 0 }) ⟨hlen, hpos, hpos⟩ a
  · rw [tchCount_dwell a (by omega)]
    exact ⟨hlen, hpos, Nat.lt_of_not_le hdue⟩

theorem TimerFits.tchTick (h : TimerFits c t) (a : Bool) : TimerFits c (Machine.tchTick a t) := by
  unfold Machine.tchTick
  split
  · obtain ⟨hlen, hpre⟩ := h.tchCount a
    exact ⟨(List.length_map _).trans hlen, hpre⟩
  · exact h

theorem TimerFits.timerReset (h : TimerFits c t) : TimerFits c (Machine.timerReset t) :=
  ⟨(List.length_map _).trans h.cmps, Nat.le_refl 1, Nat.one_pos⟩

end

/-! ### Reset of the cells -/

theorem advances_rbReset (moves : Bool) (w : Window) (s : State) : Advances moves s (rbReset w s) := by
  cases w with
  | gpio =>
    exact advances_gpio fun _ ⟨hinp, _, _, _, his, _, _, _⟩ =>
      ⟨hinp, within_zero, within_zero, within_zero, his, within_zero, within_zero, within_zero⟩
  | uart => exact advances_uart (hd := fun _ => (by decide : (1 : BitVec 16) ≠ 0))
  | uart16550 => exact advances_u16
  | spi => exact advances_spi
  | i2c => exact advances_i2c (hd := fun _ => (by decide : (1 : BitVec 16) ≠ 0))
  | timer => exact .refl ..
  | dma => exact advances_dma
  | intc => exact advances_intc fun _ ⟨hlen, _, hpend⟩ => ⟨(List.length_map _).trans hlen, within_zero, hpend⟩

end Sys2Proof.Machine
end

section
/-! How a stimulus completes: every outcome advances the block (`exec_advances`), and a stimulus to a window either touches no window or recomputes its own line (`exec_responds`). The invariants of the block follow. -/

namespace Sys2Proof.Machine

/-! ## Outcomes -/

/-- Every next state that an outcome answers advances the block. -/
def AdvancesTo (moves : Bool) (s : State) (o : Host.Outcome State Fault Refusal) : Prop :=
  ∀ t, o = .next t → Advances moves s t

/-- Only the trace and the result change: a pure read, or an access that is ignored with a warning. -/
def OnlyOutput (s t : State) : Prop := ∃ outs r, t = { s with trace := s.trace ++ outs, result := r }

/-- After an advance, the line of window `w` is recomputed and nothing follows. -/
def Recomputed (w : Window) (moves : Bool) (s t : State) : Prop :=
  ∃ s1 r, Advances moves s s1 ∧ t = ret r (updateInterrupts w s1)

/-- The two ways a stimulus to window `w` completes. -/
def Responds (w : Window) (moves : Bool) (s : State) (o : Host.Outcome State Fault Refusal) : Prop :=
  ∀ t, o = .next t → OnlyOutput s t ∨ Recomputed w moves s t

theorem OnlyOutput.advances {s t : State} (h : OnlyOutput s t) (moves : Bool) : Advances moves s t := by
  obtain ⟨outs, r, rfl⟩ := h
  have honly : OnlyWindow .gpio s { s with trace := s.trace ++ outs, result := r } :=
    ⟨rfl, rfl, fun x _ => ⟨by cases x <;> rfl, by cases x <;> rfl⟩⟩
  exact honly.advances rfl (List.prefix_append _ _) fun _ h => h

theorem Recomputed.advances {w : Window} {moves : Bool} {s t : State} (h : Recomputed w moves s t) : Advances moves s t := by
  obtain ⟨s1, r, hadv, rfl⟩ := h
  exact (hadv.trans advances_updateInterrupts).trans (advances_ret r)

section
variable {w : Window} {moves : Bool} {s t : State} {o : Host.Outcome State Fault Refusal}

theorem Responds.advancesTo (h : Responds w moves s o) : AdvancesTo moves s o := fun t ht =>
  (h t ht).elim (·.advances moves) (·.advances)

theorem Advances.to_next (h : Advances moves s t) : AdvancesTo moves s (.next t) := by
  rintro _ ⟨⟩
  exact h

theorem Advances.to_ret (h : Advances moves s t) (r : Result) : AdvancesTo moves s (.next (ret r t)) :=
  (h.trans (advances_ret r)).to_next

theorem advancesTo_fault (f : Fault) : AdvancesTo moves s (.fault f) := by
  rintro _ ⟨⟩

theorem advancesTo_refused (r : Refusal) : AdvancesTo moves s (.refused r) := by
  rintro _ ⟨⟩

theorem AdvancesTo.andThen_done (h : AdvancesTo moves s o) : AdvancesTo moves s (andThen o done) := by
  intro u hu
  obtain ⟨t, ht, hu⟩ := andThen_eq_next.mp hu
  exact (h t ht).to_ret .nothing u hu

theorem Advances.responds_hook (h : Advances moves s t) : Responds w moves s (hook w t) := by
  rintro _ ⟨⟩
  exact .inr ⟨t, .nothing, h, rfl⟩

theorem Advances.responds_postRead (h : Advances moves s t) (v : Word) :
    Responds w moves s (doneWord v (updateInterrupts w t)) := by
  rintro _ ⟨⟩
  exact .inr ⟨t, .word v, h, rfl⟩

theorem AdvancesTo.responds_andThen_hook (h : AdvancesTo moves s o) : Responds w moves s (andThen o (hook w)) := by
  intro u hu
  obtain ⟨t, ht, hu⟩ := andThen_eq_next.mp hu
  exact (h t ht).responds_hook u hu

theorem responds_pureRead (v : Word) : Responds w moves s (doneWord v s) := by
  rintro _ ⟨⟩
  exact .inl ⟨[], .word v, by rw [List.append_nil]; rfl⟩

theorem responds_ignored (c : Warning) : Responds w moves s (done (warn c s)) := by
  rintro _ ⟨⟩
  exact .inl ⟨[.warn c], .nothing, rfl⟩

theorem responds_unmatchedRead (off : Nat) : Responds w moves s (unmatchedRead off s) := by
  rintro _ ⟨⟩
  exact .inl ⟨[.warn (.oorRead off)], .word 0, rfl⟩

theorem responds_unmatchedWrite (off : Nat) : Responds w moves s (unmatchedWrite off s) := responds_ignored _

end

/-! ## The GPIO extension and the DMA request -/

theorem responds_gpioExtRead (moves : Bool) (off : Nat) (x : Word) (s : State) :
    Responds .gpio moves s (gpioExtRead off x s) := by
  unfold gpioExtRead
  split
  · exact responds_pureRead _
  · exact responds_unmatchedRead off

theorem responds_gpioExtWrite (moves : Bool) (off : Nat) (g : Gpio) (s : State)
    (h : GpioOk s.cfg s.gpio → GpioOk s.cfg g) : Responds .gpio moves s (gpioExtWrite off g s) := by
  unfold gpioExtWrite
  split
  · exact Advances.responds_hook (advances_gpio fun _ => h)
  · exact responds_unmatchedWrite off

/-- A transfer is the one operation that writes `Mem`, which stays canonical (R32, R266). -/
theorem advances_dmaTransfer (n : Nat) (c : DmaChannel) (s : State) : Advances true s (dmaTransfer n c s) := by
  have hmem : Advances true s { s with mem := memCopy s.mem c.src c.dst c.count } := by
    refine ⟨rfl, rfl, List.prefix_rfl, nofun, fun hi => ?_⟩
    obtain ⟨hlegal, hwin, hwf⟩ := inv_iff.mp hi
    exact inv_iff.mpr ⟨hlegal, fun w => windowOk_congr rfl (by cases w <;> rfl) (hwin w), memCopy_wf _ _ _ hwf⟩
  have hcopy := hmem.trans (advances_emit (.memcopy c.src c.dst c.count))
  exact .ite (fun _ => hcopy.trans (advances_setChan n _)) fun _ => hcopy

theorem advancesTo_dchTrigger (n : Nat) (c : DmaChannel) (s : State) : AdvancesTo true s (dchTrigger n c s) := by
  rcases dchTrigger_cases n c s with ⟨_, h⟩ | ⟨_, _, _, h⟩ | ⟨_, _, _, h⟩ <;> rw [h]
  · exact (Advances.refl ..).to_next
  · exact advancesTo_refused _
  · exact ((advances_dmaTransfer n c s).trans advances_updateInterrupts).to_next

theorem advancesTo_dmaRequest (n : Nat) (s : State) : AdvancesTo true s (dmaRequest n s) := by
  rcases dmaRequest_cases n s with ⟨_, h⟩ | ⟨c, _, _, h⟩ | ⟨c, _, _, h⟩ <;> rw [h]
  · exact (advances_warn _).to_next
  · exact (Advances.refl ..).to_next
  · exact advancesTo_dchTrigger n c s

/-! ## The bank -/

theorem fieldEffect_of_not_sideEffect {c : Config} {f : FieldId} (h : (fieldDesc c f).effect ≠ .sideEffect) (s : State) :
    fieldEffect f s = s := by
  cases f with
  | data | rbr | lsrOe => exact absurd rfl h
  | _ => rfl

/-- A Register none of whose fields has a read effect is read without changing the state (R95, R142). -/
theorem readSteps_pure {c : Config} : ∀ (fs : List FieldId) (p : Word × State),
    (∀ f ∈ fs, (fieldDesc c f).effect ≠ .sideEffect) → (fs.foldl readStep p).2 = p.2
  | [], _, _ => rfl
  | f :: fs, p, h => by
    obtain ⟨hf, hfs⟩ := List.forall_mem_cons.mp h
    exact (readSteps_pure fs _ hfs).trans (fieldEffect_of_not_sideEffect hf p.2)

theorem advances_fieldEffect (moves : Bool) (f : FieldId) (s : State) : Advances moves s (fieldEffect f s) := by
  unfold fieldEffect
  split
  · exact advances_serDataRead ..
  · exact advances_serDataRead ..
  · exact advances_clearOverrun .uart16550
  · exact .refl ..

theorem advances_readSteps (moves : Bool) : ∀ (fs : List FieldId) (p : Word × State),
    Advances moves p.2 (fs.foldl readStep p).2
  | [], _ => .refl ..
  | f :: fs, p => (advances_fieldEffect moves f p.2).trans (advances_readSteps moves fs (readStep p f))

/-- A write of one field keeps the invariant because it gives the field no more bits than it has (R116, R149). -/
theorem advances_writeStep (moves : Bool) (v : Word) (s : State) (f : FieldId) : Advances moves s (writeStep v s f) := by
  have hpins (h : s.cfg.Legal) := within_extractField_ofNat (n := s.cfg.nGpio) (by omega) v 0
  cases f with
  | gpioData => exact advances_gpio fun hl h => { h with out := hpins hl }
  | gpioDir => exact advances_gpio fun hl h => { h with dir := hpins hl }
  | gpioIe => exact advances_gpio fun hl h => { h with ie := hpins hl }
  | gpioIs => exact advances_gpio fun _ h => { h with is := h.is.and_left _ }
  | gpioIt => exact advances_gpio fun hl h => { h with it := hpins hl }
  | gpioIp => exact advances_gpio fun hl h => { h with ip := hpins hl }
  | gpioEdge => exact advances_gpio fun hl h => { h with edge := hpins hl }
  | data x => exact advances_serDataWrite ..
  | overrun x => exact .ite (fun _ => advances_clearOverrun x) fun _ => .refl ..
  | uartTxEn | uartRxEn | uartTxIe | uartRxIe | uartOvrIe | uartRxTrig | uartTxTrig => exact advances_uart
  | uartDiv =>
    exact .ite (fun _ => advances_warn _) fun h => advances_uart (hd := fun _ => setWidth_extractField_ne_zero h)
  | thr => exact advances_serDataWrite moves .uart16550 _ s
  | dll | dlh | erbfi | etbei | elsi | fcrFifoEn | fcrRxTrig | lcr => exact advances_u16
  | fcrRxClr | fcrTxClr => exact .ite (fun _ => advances_clearFifo _) fun _ => .refl ..
  | spiEn | spiLoopback | spiMode | spiTxIe | spiRxIe | spiOvrIe | spiRxTrig | spiTxTrig => exact advances_spi
  | i2cEn | i2cStart | i2cStop | i2cAck | i2cTxIe | i2cRxIe | i2cOvrIe | i2cSlaveAddr | i2cRxTrig | i2cTxTrig =>
    exact advances_i2c
  | i2cDiv => exact .ite (fun _ => advances_warn _) fun h => advances_i2c (hd := fun _ => setWidth_extractField_ne_zero h)
  | timerEn => exact advances_timer fun h => h.setRunning _ _
  | timerOneshot | timerOvfIe | timerValue | timerLimit => exact advances_timer fun ⟨hlen, hpre⟩ => ⟨hlen, hpre⟩
  | timerPrescaler =>
    refine .ite (fun _ => advances_warn _) fun h => advances_timer fun ⟨hlen, _⟩ => ?_
    exact ⟨hlen, one_le_toNat h, one_le_toNat h⟩
  | timerOvf => exact .ite (fun _ => advances_timer fun ⟨hlen, hpre⟩ => ⟨hlen, hpre⟩) fun _ => .refl ..
  | cmpTarget k | cmpEn k => exact advances_modifyCmp k _
  | cmpPend k => exact .ite (fun _ => advances_modifyCmp k _) fun _ => .refl ..
  | dmaEn => exact advances_dma
  | chSrc n | chDst n | chCount n | chEn n | chIe n => exact advances_modifyChan n _
  | chIf n => exact .ite (fun _ => advances_modifyChan n _) fun _ => .refl ..
  | intcEnable =>
    exact advances_intc fun hl h => { h with enable := within_extractField_ofNat (by omega) v 0 }
  | intcPrio n => exact advances_intc fun _ h => { h with prios := List.length_set.trans h.prios }
  | txEmpty | txFull | rxEmpty | rxFull | rbr | iirNopend | iirId | iirFifoEn | lsrDr | lsrOe | lsrThre | lsrTemt | chStart
  | intcPending => exact .refl ..

theorem advances_writeSteps (moves : Bool) (v : Word) : ∀ (fs : List FieldId) (s : State),
    Advances moves s (fs.foldl (writeStep v) s)
  | [], _ => .refl ..
  | f :: fs, s => (advances_writeStep moves v s f).trans (advances_writeSteps moves v fs _)

theorem responds_rbRead (moves : Bool) (w : Window) (off : Nat) (s : State) : Responds w moves s (rbRead w off s) := by
  unfold rbRead
  split
  · exact responds_unmatchedRead off
  next r _ =>
    dsimp only
    cases hhook : hasReadHook s.cfg r with
    | true => exact (advances_readSteps moves r.fields (0, s)).responds_postRead _
    | false =>
      have hpure : ∀ f ∈ r.fields, (fieldDesc s.cfg f).effect ≠ .sideEffect := by simpa [hasReadHook] using hhook
      rw [if_neg Bool.false_ne_true, readSteps_pure r.fields (0, s) hpure]
      exact responds_pureRead _

theorem advancesTo_hookAction (w : Window) (off : Nat) (v : Word) (s : State) :
    AdvancesTo (w == .dma && v.getLsbD 1) s (hookAction w off v s) := by
  cases w with
  | uart | spi | i2c => exact (Advances.ite (fun _ => advances_drainIfOn ..) fun _ => .refl ..).to_next
  | dma =>
    simp only [hookAction]
    split
    next h =>
      obtain ⟨_, _, hstart⟩ := h
      rw [hstart]
      exact advancesTo_dmaRequest _ s
    · exact (Advances.refl ..).to_next
  | gpio | uart16550 | timer | intc => exact (Advances.refl ..).to_next

theorem responds_rbWrite (w : Window) (off : Nat) (v : Word) (s : State) :
    Responds w (w == .dma && v.getLsbD 1) s (rbWrite w off v s) := by
  unfold rbWrite
  split
  · exact responds_unmatchedWrite off
  next r _ =>
    refine AdvancesTo.responds_andThen_hook fun t ht => ?_
    exact (advances_writeSteps _ v r.fields s).trans (advancesTo_hookAction w off v _ t ht)

/-! ## The stimuli to a window -/

/-- The write that may start a transfer: it does so only with `START` set (R451). -/
theorem responds_wrDmaChCtrl (n : BitVec 3) (v : Word) (s : State) :
    Responds .dma (v.getLsbD 1) s (execWrDmaChCtrl n v s) := by
  unfold execWrDmaChCtrl
  split
  next c _ =>
    refine AdvancesTo.responds_andThen_hook fun t ht => (advances_setChan n.toNat (setChanCtrl v c)).trans ?_
    cases hstart : v.getLsbD 1 with
    | false =>
      rw [hstart] at ht
      exact (Advances.refl ..).to_next t ht
    | true =>
      rw [hstart] at ht
      exact advancesTo_dmaRequest _ _ t ht
  · exact responds_unmatchedWrite _

theorem responds_wrUart16550Fcr (moves : Bool) (v : Word) (s : State) :
    Responds .uart16550 moves s (execWrUart16550Fcr v s) := by
  have clear (dir : FifoDir) (b : Bool) (t : State) :
      Advances moves t (if b then clearFifo ⟨.uart16550, dir⟩ t else t) :=
    .ite (fun _ => advances_clearFifo _) fun _ => .refl ..
  exact Advances.responds_hook ((((advances_u16).trans (clear .rx _ _)).trans (clear .tx _ _)).trans (advances_u16))

/-- A stimulus to a window touches no window, or advances the block and recomputes the line of its own window
(R95, R150, R151, R200). -/
theorem exec_responds {i : Instr} {w : Window} (s : State) (hw : stimulusWindow i = some w) :
    Responds w (mayTransfer i) s (exec i s) := by
  cases i <;> cases hw
  case rdGpioData | rdGpioDir | rdUartStatus | rdUartControl | rdUartBaud | rdUart16550Dll | rdUart16550Ier | rdUart16550Dlh |
      rdUart16550Iir | rdUart16550Lcr | rdSpiControl | rdSpiStatus | rdI2cControl | rdI2cStatus | rdI2cClockDiv |
      rdTimerControl | rdTimerValue | rdTimerReload | rdTimerPrescaler | rdTimerStatus | rdDmaControl | rdIntcEnable |
      rdIntcPending =>
    exact responds_pureRead _
  case rdGpioIe | rdGpioIs | rdGpioIt | rdGpioIp | rdGpioEdge => exact responds_gpioExtRead _ _ _ s
  case rdUartData | rdUart16550Rbr | rdSpiData | rdI2cData => exact (advances_serDataRead _ _ s).responds_postRead _
  case rdUart16550Lsr => exact (advances_clearOverrun .uart16550).responds_postRead _
  case rdTimerCmpTarget | rdTimerCmpCtrl | rdDmaChSrc | rdDmaChDst | rdDmaChCount | rdDmaChCtrl | rdIntcPriority =>
    simp only [exec, execRdTimerCmpTarget, execRdTimerCmpCtrl, execRdDmaChSrc, execRdDmaChDst, execRdDmaChCount,
      execRdDmaChCtrl, execRdIntcPriority]
    split
    · exact responds_pureRead _
    · exact responds_unmatchedRead _
  case wrGpioData => exact Advances.responds_hook (advances_gpio fun _ h => { h with out := within_and_mask _ })
  case wrGpioDir => exact Advances.responds_hook (advances_gpio fun _ h => { h with dir := within_and_mask _ })
  case wrGpioIe => exact responds_gpioExtWrite _ _ _ s fun h => { h with ie := within_and_mask _ }
  case wrGpioIs => exact responds_gpioExtWrite _ _ _ s fun h => { h with is := h.is.and_left _ }
  case wrGpioIt => exact responds_gpioExtWrite _ _ _ s fun h => { h with it := within_and_mask _ }
  case wrGpioIp => exact responds_gpioExtWrite _ _ _ s fun h => { h with ip := within_and_mask _ }
  case wrGpioEdge => exact responds_gpioExtWrite _ _ _ s fun h => { h with edge := within_and_mask _ }
  case evGpioPin pin level =>
    simp only [exec, execEvGpioPin]
    split
    · exact responds_ignored _
    next hpin =>
      refine Advances.responds_hook (advances_gpio fun _ h => { h with inp := h.inp.setBit (by omega) level, is := ?_ })
      unfold pinLatches
      split
      · exact h.is.setBit (by omega) true
      · exact h.is
  case evGpioReset =>
    refine Advances.responds_hook ((advances_rbReset _ .gpio s).trans (advances_gpio fun _ h => ?_))
    exact { h with inp := within_zero, is := within_zero }
  case wrUartData | wrUart16550Thr | wrSpiData | wrI2cData => exact Advances.responds_hook (advances_serDataWrite _ _ _ s)
  case wrUartStatus | wrSpiStatus | wrI2cStatus =>
    exact Advances.responds_hook (Advances.ite (fun _ => advances_clearOverrun _) fun _ => .refl ..)
  case wrUartControl => exact Advances.responds_hook ((advances_uart).trans (advances_drainIfOn ..))
  case wrSpiControl => exact Advances.responds_hook ((advances_spi).trans (advances_drainIfOn ..))
  case wrI2cControl => exact Advances.responds_hook ((advances_i2c).trans (advances_drainIfOn ..))
  case wrUartBaud =>
    exact Advances.responds_hook (Advances.ite (fun _ => advances_warn _) fun h => advances_uart (hd := fun _ => h))
  case wrI2cClockDiv =>
    exact Advances.responds_hook (Advances.ite (fun _ => advances_warn _) fun h => advances_i2c (hd := fun _ => h))
  case evUartRxChar | evUart16550RxChar | evSpiRxChar | evI2cRxChar => exact Advances.responds_hook (advances_serRxChar _ _ _ s)
  case evUartReset | evSpiReset | evI2cReset =>
    exact Advances.responds_hook ((advances_rbReset _ _ s).trans (advances_portReset _))
  case evUart16550Reset =>
    exact Advances.responds_hook (((advances_rbReset _ .uart16550 s).trans (advances_portReset .uart16550)).trans (advances_u16))
  case wrUart16550Dll | wrUart16550Ier | wrUart16550Dlh | wrUart16550Lcr | evUart16550SetMap =>
    exact Advances.responds_hook (advances_u16)
  case wrUart16550Fcr => exact responds_wrUart16550Fcr _ _ s
  case wrUart16550Lsr | wrIntcPending => exact Advances.responds_hook (Advances.refl ..)
  case wrTimerControl v =>
    refine Advances.responds_hook (advances_timer fun h => ?_)
    obtain ⟨hlen, hpre⟩ := h.setRunning s.cfg.cmpArmOnce (v.getLsbD 0)
    exact ⟨hlen, hpre⟩
  case wrTimerValue | wrTimerReload => exact Advances.responds_hook (advances_timer fun ⟨hlen, hpre⟩ => ⟨hlen, hpre⟩)
  case wrTimerPrescaler =>
    refine Advances.responds_hook (.ite (fun _ => advances_warn _) fun h => advances_timer fun ⟨hlen, _⟩ => ?_)
    exact ⟨hlen, one_le_toNat h, one_le_toNat h⟩
  case wrTimerStatus =>
    exact Advances.responds_hook (Advances.ite (fun _ => advances_timer fun ⟨hlen, hpre⟩ => ⟨hlen, hpre⟩) fun _ => .refl ..)
  case wrTimerCmpTarget | wrTimerCmpCtrl =>
    simp only [exec, execWrTimerCmpTarget, execWrTimerCmpCtrl]
    split
    · exact Advances.responds_hook (advances_setCmp _ _)
    · exact responds_unmatchedWrite _
  case evTimerTick => exact Advances.responds_hook (advances_timer fun h => h.tchTick _)
  case evTimerReset => exact Advances.responds_hook ((advances_rbReset _ .timer s).trans (advances_timer fun h => h.timerReset))
  case wrDmaControl => exact Advances.responds_hook (advances_dma)
  case wrDmaChSrc | wrDmaChDst | wrDmaChCount =>
    simp only [exec, execWrDmaChSrc, execWrDmaChDst, execWrDmaChCount]
    split
    · exact Advances.responds_hook (advances_setChan _ _)
    · exact responds_unmatchedWrite _
  case wrDmaChCtrl => exact responds_wrDmaChCtrl _ _ s
  case evDmaReq => exact (advancesTo_dmaRequest _ s).responds_andThen_hook
  case evDmaReset => exact Advances.responds_hook ((advances_rbReset _ .dma s).trans (advances_dma (List.length_map _)))
  case wrIntcEnable => exact Advances.responds_hook (advances_intc fun _ h => { h with enable := within_and_mask _ })
  case wrIntcPriority =>
    simp only [exec, execWrIntcPriority]
    split
    · exact Advances.responds_hook (advances_intc fun _ h => { h with prios := List.length_set.trans h.prios })
    · exact responds_unmatchedWrite _
  case evIntcSrc =>
    simp only [exec, execEvIntcSrc]
    split
    · exact responds_ignored _
    · exact Advances.responds_hook (advances_intc fun _ h => { h with pending := h.pending.setBit (by omega) _ })
  case evIntcReset =>
    exact Advances.responds_hook ((advances_rbReset _ .intc s).trans (advances_intc fun _ h => { h with pending := within_zero }))
  case opRbRead => exact responds_rbRead _ _ _ s
  case opRbWrite => exact responds_rbWrite _ _ _ s

/-! ## All stimuli -/

/-- The component operations that are no bus access advance the block (R110, R114). -/
theorem componentOp_advances {i : Instr} (s : State) (hw : stimulusWindow i = none) :
    AdvancesTo (mayTransfer i) s (exec i s) := by
  cases i <;> cases hw
  case opRbReset => exact (advances_rbReset ..).to_ret _
  case opRbDefine bank =>
    simp only [exec, execOpRbDefine]
    split
    · exact advancesTo_fault _
    · exact (Advances.refl ..).to_ret _
  case opFifoPush q b => exact (advances_pushFifo q b).to_ret _
  case opFifoPop q => exact (advances_popFifo q).to_ret _
  case opFifoCount | opFifoIsFull | opFifoIsEmpty | opAggSnapshot => exact (Advances.refl ..).to_ret _
  case opFifoClear q => exact (advances_clearFifo q).to_ret _
  case opLineSet | opAggOr | opAggPrio => exact (advances_lineSet _).to_ret _
  case opTchTick => exact (advances_timer fun h => h.tchTick _).to_ret _
  case opTchStart => exact (advances_timer fun h => h.tchStart _).to_ret _
  case opTchStop => exact (advances_timer fun h => h.tchStop).to_ret _
  case opCmpEval =>
    simp only [exec, execOpCmpEval]
    split
    · exact (advances_setCmp _ _).to_ret _
    · exact (advances_warn _).to_ret _
  case opDchConfigure | opDchSetEnabled =>
    simp only [exec, execOpDchConfigure, execOpDchSetEnabled]
    split
    · exact (advances_setChan _ _).to_ret _
    · exact (advances_warn _).to_ret _
  case opDchTrigger =>
    simp only [exec, execOpDchTrigger]
    split
    · exact (advancesTo_dchTrigger _ _ s).andThen_done
    · exact (advances_warn _).to_ret _
  case opDmaRequest => exact (advancesTo_dmaRequest _ s).andThen_done
  case opSerDataWrite => exact (advances_serDataWrite ..).to_ret _
  case opSerDataRead => exact (advances_serDataRead ..).to_ret _
  case opSerRxChar => exact (advances_serRxChar ..).to_ret _
  case opSerDrain => exact (advances_serDrain ..).to_ret _

/-- Every stimulus that completes advances the block, and moves memory only if it may make a transfer (R32). -/
theorem exec_advances (i : Instr) (s : State) : AdvancesTo (mayTransfer i) s (exec i s) := by
  cases hw : stimulusWindow i with
  | some w => exact (exec_responds s hw).advancesTo
  | none => exact componentOp_advances s hw

/-! ## The invariants of the block -/

theorem linesAgree_iff {s : State} : LinesAgree s ↔ ∀ w, lineOf w s = lineLevel w s := by
  constructor
  · rintro ⟨hgpio, huart, hu16, hspi, hi2c, htimer, hdma, hintc⟩ w
    cases w <;> assumption
  · intro h
    exact ⟨h .gpio, h .uart, h .uart16550, h .spi, h .i2c, h .timer, h .dma, h .intc⟩

/-- A recomputed line has the level of the table (R200). -/
theorem Recomputed.lineOf_eq {w : Window} {moves : Bool} {s t : State} (h : Recomputed w moves s t) :
    lineOf w t = lineLevel w t := by
  obtain ⟨s1, r, _, rfl⟩ := h
  rw [lineOf_ret, updateInterrupts, lineOf_lineSet, lineLevel_ret]
  exact (lineLevel_congr (lineSet_cfg ..) (windowSame_lineSet ..)).symm

/-- Nothing a line depends on changes when only the trace and the result do. -/
theorem OnlyOutput.lineOf_eq {s t : State} (h : OnlyOutput s t) {w : Window} (hs : lineOf w s = lineLevel w s) :
    lineOf w t = lineLevel w t := by
  obtain ⟨outs, r, rfl⟩ := h
  have hline : lineOf w { s with trace := s.trace ++ outs, result := r } = lineOf w s := by cases w <;> rfl
  exact hline.trans (hs.trans (lineLevel_congr rfl (by cases w <;> rfl)).symm)

/-- Settles O24: the addressed window's line is recomputed or nothing it depends on changes (`exec_responds`), and the other
windows and lines stay (`exec_staysIn`). -/
theorem linesAgreeAfterEveryStimulus : Obligations.LinesAgreeAfterEveryStimulus := by
  intro i w s t hw hexec hagree
  rw [linesAgree_iff] at hagree ⊢
  obtain ⟨⟨hcfg, _, hother⟩, _⟩ := exec_staysIn s hw t hexec
  intro x
  by_cases hx : x = w
  · subst hx
    exact (exec_responds s hw t hexec).elim (·.lineOf_eq (hagree x)) (·.lineOf_eq)
  · obtain ⟨hsame, hline⟩ := hother x hx
    rw [hline, lineLevel_congr hcfg hsame, hagree x]

/-- Settles O26: a step is the stimulus it takes (`exec_advances`), and taking it off the queue touches nothing the
invariant speaks of. -/
theorem everyStepKeepsInvariant : Obligations.EveryStepKeepsInvariant := by
  intro s t hinv hstep
  cases hin : s.input with
  | nil =>
    rw [step_of_no_input hin] at hstep
    cases hstep
    exact hinv
  | cons r rs =>
    cases hdec : decode s.u16.mapSel r with
    | error e =>
      rw [step_of_decode_error hin hdec] at hstep
      cases hstep
    | ok i =>
      rw [step_of_decode_ok hin hdec] at hstep
      exact (exec_advances i _ t hstep).inv hinv

/-- Settles O29. -/
theorem onlyTransfersWriteMemory : Obligations.OnlyTransfersWriteMemory := fun i s t hno hexec =>
  (exec_advances i s t hexec).mem hno

/-- Settles O31. -/
theorem configurationStaysAndTraceGrows : Obligations.ConfigurationStaysAndTraceGrows := by
  intro i s t hexec
  have hadv := exec_advances i s t hexec
  obtain ⟨outs, houts⟩ := hadv.trace
  exact ⟨hadv.cfg, hadv.input, outs, houts.symm⟩

end Sys2Proof.Machine
end

section
/-! What the registers and the timer channel show: the reset state, the reset of a bank's cells, the control words, `IIR`, and one tick. -/

namespace Sys2Proof.Machine

/-! ## Reset (R85, R522) -/

theorem orOf_eq_false {ss : List Source} (h : ∀ x ∈ ss, qualifies x = false) : orOf ss = false := by
  simpa [orOf] using h

theorem winner_eq_none {ss : List Source} (h : ∀ x ∈ ss, qualifies x = false) : winner ss = none := by
  have hnil : qualifying ss = [] := by
    refine List.filter_eq_nil_iff.mpr fun p hp => ?_
    rw [h p.1 (List.fst_mem_of_mem_zipIdx hp)]
    exact Bool.false_ne_true
  simp [winner, hnil]

/-- No source qualifies after reset: none is enabled. -/
theorem powerOn_not_qualifies (c : Config) (w : Window) : ∀ x ∈ sources w (State.powerOn c), qualifies x = false := by
  cases w with
  | gpio =>
    simp only [sources]
    split
    · simp [State.powerOn, orSource, qualifies]
    · exact List.forall_mem_nil _
  | uart | uart16550 | spi | i2c => simp [sources, State.powerOn, orSource, qualifies]
  | timer => simp [sources, State.powerOn, orSource, qualifies, Cmp.reset]
  | dma => simp [sources, State.powerOn, orSource, qualifies, DmaChannel.reset]
  | intc => simp [sources, State.powerOn, qualifies]

theorem lineLevel_powerOn (c : Config) (w : Window) : lineLevel w (State.powerOn c) = false := by
  have h := powerOn_not_qualifies c w
  cases w with
  | intc => exact congrArg Option.isSome (winner_eq_none h)
  | _ => exact orOf_eq_false h

theorem linesAgree_powerOn (c : Config) : LinesAgree (State.powerOn c) :=
  linesAgree_iff.mpr fun w => (by cases w <;> rfl : lineOf w (State.powerOn c) = false).trans (lineLevel_powerOn c w).symm

theorem portOk_empty (cap : Nat) (policy : OvrPolicy) : PortOk cap policy Port.empty :=
  ⟨Nat.zero_le _, Nat.zero_le _, fun _ => rfl⟩

theorem windowOk_powerOn (c : Config) (w : Window) : WindowOk w (State.powerOn c) := by
  have hone : (1 : BitVec 16) ≠ 0 := by decide
  cases w with
  | gpio => constructor <;> exact within_zero
  | uart | i2c => exact ⟨portOk_empty _ _, hone⟩
  | uart16550 | spi => exact portOk_empty _ _
  | timer => exact ⟨List.length_replicate, Nat.le_refl 1, Nat.one_pos⟩
  | dma => exact List.length_replicate
  | intc => exact ⟨List.length_replicate, within_zero, within_zero⟩

theorem inv_powerOn {c : Config} (h : c.Legal) : (State.powerOn c).Inv :=
  inv_iff.mpr ⟨h, windowOk_powerOn c, reset_mem_wf c⟩

/-- Settles O27. -/
theorem resetMeetsInvariants : Obligations.ResetMeetsInvariants :=
  ⟨inv_powerOn (by decide), linesAgree_powerOn _, fun c h => ⟨inv_powerOn h, linesAgree_powerOn c⟩⟩

/-- Settles O34: each read of the reset state, evaluated. -/
theorem registersReadTheirResetValues : Obligations.RegistersReadTheirResetValues :=
  ⟨rfl, rfl, rfl, rfl, rfl, rfl, rfl, rfl, rfl, rfl, rfl, rfl, rfl, rfl, rfl, rfl, rfl, rfl⟩

/-! ## `OP RB.RESET` (R152) -/

/-- A cell that no callback reads or writes is restored to its declared reset value (R141, R152). -/
theorem fieldValue_rbReset {f : FieldId} {s : State} (res : Result) (hmode : (fieldDesc s.cfg f).mode = .rw)
    (hcell : (fieldDesc s.cfg f).provider = false) :
    fieldValue f (ret res (rbReset f.window s)) = (fieldDesc s.cfg f).reset := by
  cases f with
  | intcPrio n =>
    have hzero : ∀ p, prioAt (rbReset .intc s) n = some p → p = 0 := by
      intro p hp
      obtain ⟨_, hget⟩ := prioAt_eq_some.mp hp
      obtain ⟨_, _, h0⟩ := List.mem_map.mp (List.mem_of_getElem? hget)
      exact h0.symm
    change (prioAt (rbReset .intc s) n).elim 0 (fun p => p.setWidth 32) = 0
    cases hp : prioAt (rbReset .intc s) n with
    | none => rfl
    | some p => rw [hzero p hp]; rfl
  | gpioDir | gpioIe | gpioIt | gpioIp | gpioEdge | uartTxEn | uartRxEn | uartTxIe | uartRxIe | uartOvrIe | uartRxTrig
  | uartTxTrig | dll | dlh | erbfi | etbei | elsi | lcr | spiEn | spiLoopback | spiMode | spiTxIe | spiRxIe | spiOvrIe
  | spiRxTrig | spiTxTrig | i2cEn | i2cStart | i2cStop | i2cAck | i2cTxIe | i2cRxIe | i2cOvrIe | i2cSlaveAddr | i2cRxTrig
  | i2cTxTrig | dmaEn | intcEnable => rfl
  | gpioData | data | uartDiv | i2cDiv | timerEn | timerOneshot | timerOvfIe | timerValue | timerLimit | timerPrescaler
  | cmpTarget | cmpEn | chSrc | chDst | chCount | chEn | chIe => cases hcell
  | gpioIs | txEmpty | txFull | rxEmpty | rxFull | overrun | rbr | thr | iirNopend | iirId | iirFifoEn | fcrFifoEn | fcrRxClr
  | fcrTxClr | fcrRxTrig | lsrDr | lsrOe | lsrThre | lsrTemt | timerOvf | cmpPend | chStart | chIf | intcPending => cases hmode

theorem rbReset_rbReset (w : Window) (r : Result) (s : State) :
    ret r (rbReset w (ret r (rbReset w s))) = ret r (rbReset w s) := by
  cases w with
  | intc => simp [rbReset, ret]
  | _ => rfl

/-- Settles O15: what is outside the cells by `rbReset_frame`, the cells by `fieldValue_rbReset`. -/
theorem bankResetRestoresCells : Obligations.BankResetRestoresCells := by
  intro w s _
  obtain ⟨honly, hmem, hline, htrace⟩ := rbReset_frame w s
  refine ⟨ret .nothing (rbReset w s), rfl, ?_, congrArg Host.Outcome.next (rbReset_rbReset w .nothing s), ?_⟩
  · refine ⟨honly.trans (confined_ret (moves := false) .nothing).1, ?_, hmem, ?_, rfl⟩
    · rw [lineOf_ret, hline]
    · rw [ret_trace, htrace, List.append_nil]
  have hcells : ∀ r ∈ registersOf s.cfg w, ∀ f ∈ r.fields, (fieldDesc s.cfg f).mode = .rw →
      (fieldDesc s.cfg f).provider = false → fieldValue f (ret .nothing (rbReset w s)) = (fieldDesc s.cfg f).reset := by
    intro r hr f hf hmode hcell
    rw [← window_of_mem_registersOf hr hf]
    exact fieldValue_rbReset .nothing hmode hcell
  cases w <;> exact ⟨rfl, rfl, rfl, rfl, rfl, rfl, rfl, rfl, rfl, rfl, by simp [rbReset], by simp [rbReset],
    by simp [rbReset], by simp [rbReset], hcells⟩

/-! ## Control words (R47, R59, R63) -/

theorem getLsbD_flagAt (b : Bool) (i j : Nat) : (flagAt b i).getLsbD j = (decide (j < 32) && decide (j = i) && b) := by
  have hbit : ∀ k, (boolWord b).getLsbD k = (decide (k = 0) && b) := by
    intro k
    cases b <;> simp [boolWord]
  rw [flagAt, BitVec.getLsbD_shiftLeft, hbit]
  by_cases hji : j < i
  · simp [hji, show j ≠ i by omega]
  · simp [hji, show j - i = 0 ↔ j = i by omega, Bool.and_assoc]

theorem getLsbD_fieldAt {n : Nat} (x : BitVec n) (lo j : Nat) :
    (fieldAt x lo).getLsbD j = (decide (j < 32) && decide (lo ≤ j) && x.getLsbD (j - lo)) := by
  rw [fieldAt, BitVec.getLsbD_shiftLeft, BitVec.getLsbD_setWidth]
  by_cases hj : j < 32
  · have hsub : j - lo < 32 := by omega
    by_cases hlo : lo ≤ j <;> simp [hj, hsub, hlo, Nat.not_lt.mpr, Nat.lt_of_not_le]
  · simp [hj]

theorem within_flagAt {m : Word} {i : Nat} (h : m.getLsbD i = true) (b : Bool) : Within m (flagAt b i) :=
  within_iff.mpr fun j hj => by
    simp only [getLsbD_flagAt, Bool.and_eq_true, decide_eq_true_eq] at hj
    exact hj.1.2 ▸ h

theorem within_fieldAt {m : Word} {n lo : Nat} (h : ∀ j < n, m.getLsbD (lo + j) = true) (x : BitVec n) :
    Within m (fieldAt x lo) :=
  within_iff.mpr fun j hj => by
    simp only [getLsbD_fieldAt, Bool.and_eq_true, decide_eq_true_eq] at hj
    have hlt := BitVec.lt_of_getLsbD hj.2
    have hbit := h (j - lo) hlt
    rwa [Nat.add_sub_cancel' hj.1.2] at hbit

/-- A flag outside a field's bits adds nothing to the field. -/
theorem extractLsb'_flagAt {b : Bool} {i lo n : Nat} (h : i < lo ∨ lo + n ≤ i) : (flagAt b i).extractLsb' lo n = 0 := by
  refine BitVec.eq_of_getLsbD_eq fun j hj => ?_
  simp [getLsbD_flagAt, show lo + j ≠ i by omega]

/-- Nor does a field with other bits. -/
theorem extractLsb'_fieldAt_disjoint {n lo lo' n' : Nat} (x : BitVec n) (h : lo + n ≤ lo' ∨ lo' + n' ≤ lo) :
    (fieldAt x lo).extractLsb' lo' n' = 0 := by
  refine BitVec.eq_of_getLsbD_eq fun j hj => ?_
  rcases h with h | h
  · simp [getLsbD_fieldAt, BitVec.getLsbD_of_ge x (lo' + j - lo) (by omega)]
  · simp [getLsbD_fieldAt, show ¬lo ≤ lo' + j by omega]

theorem extractLsb'_fieldAt {n lo : Nat} (x : BitVec n) (h : lo + n ≤ 32) : (fieldAt x lo).extractLsb' lo n = x := by
  refine BitVec.eq_of_getLsbD_eq fun j hj => ?_
  rw [BitVec.getLsbD_extractLsb', getLsbD_fieldAt]
  simp [hj, show lo + j < 32 by omega]

theorem uartControlWord_fields (u : Uart) :
    uartControlWord u &&& ~~~0x001F1F1F#32 = 0 ∧ (uartControlWord u).getLsbD 0 = u.txEn ∧
      (uartControlWord u).getLsbD 1 = u.rxEn ∧ (uartControlWord u).getLsbD 2 = u.txIe ∧
      (uartControlWord u).getLsbD 3 = u.rxIe ∧ (uartControlWord u).getLsbD 4 = u.ovrIe ∧
      (uartControlWord u).extractLsb' 8 5 = u.rxTrig ∧ (uartControlWord u).extractLsb' 16 5 = u.txTrig := by
  refine ⟨?reserved, ?_⟩
  case reserved =>
    refine ((((((within_flagAt ?_ _).or (within_flagAt ?_ _)).or (within_flagAt ?_ _)).or (within_flagAt ?_ _)).or
      (within_flagAt ?_ _)).or (within_fieldAt ?_ _)).or (within_fieldAt ?_ _) <;> decide
  simp (disch := omega) only [uartControlWord, BitVec.getLsbD_or, BitVec.extractLsb'_or, getLsbD_flagAt, getLsbD_fieldAt,
    extractLsb'_flagAt, extractLsb'_fieldAt, extractLsb'_fieldAt_disjoint]
  simp

theorem spiControlWord_fields (u : Spi) :
    spiControlWord u &&& ~~~0x001F1F7F#32 = 0 ∧ (spiControlWord u).getLsbD 0 = u.en ∧
      (spiControlWord u).getLsbD 1 = u.loopback ∧ (spiControlWord u).extractLsb' 2 2 = u.mode ∧
      (spiControlWord u).getLsbD 4 = u.txIe ∧ (spiControlWord u).getLsbD 5 = u.rxIe ∧
      (spiControlWord u).getLsbD 6 = u.ovrIe ∧ (spiControlWord u).extractLsb' 8 5 = u.rxTrig ∧
      (spiControlWord u).extractLsb' 16 5 = u.txTrig := by
  refine ⟨?reserved, ?_⟩
  case reserved =>
    refine (((((((within_flagAt ?_ _).or (within_flagAt ?_ _)).or (within_fieldAt ?_ _)).or (within_flagAt ?_ _)).or
      (within_flagAt ?_ _)).or (within_flagAt ?_ _)).or (within_fieldAt ?_ _)).or (within_fieldAt ?_ _) <;> decide
  simp (disch := omega) only [spiControlWord, BitVec.getLsbD_or, BitVec.extractLsb'_or, getLsbD_flagAt, getLsbD_fieldAt,
    extractLsb'_flagAt, extractLsb'_fieldAt, extractLsb'_fieldAt_disjoint]
  simp

theorem i2cControlWord_fields (u : I2c) :
    i2cControlWord u &&& ~~~0x1F1F7F7F#32 = 0 ∧ (i2cControlWord u).getLsbD 0 = u.en ∧
      (i2cControlWord u).getLsbD 1 = u.start ∧ (i2cControlWord u).getLsbD 2 = u.stop ∧
      (i2cControlWord u).getLsbD 3 = u.ack ∧ (i2cControlWord u).getLsbD 4 = u.txIe ∧
      (i2cControlWord u).getLsbD 5 = u.rxIe ∧ (i2cControlWord u).getLsbD 6 = u.ovrIe ∧
      (i2cControlWord u).extractLsb' 8 7 = u.slaveAddr ∧ (i2cControlWord u).extractLsb' 16 5 = u.rxTrig ∧
      (i2cControlWord u).extractLsb' 24 5 = u.txTrig := by
  refine ⟨?reserved, ?_⟩
  case reserved =>
    refine (((((((((within_flagAt ?_ _).or (within_flagAt ?_ _)).or (within_flagAt ?_ _)).or (within_flagAt ?_ _)).or
      (within_flagAt ?_ _)).or (within_flagAt ?_ _)).or (within_flagAt ?_ _)).or (within_fieldAt ?_ _)).or
      (within_fieldAt ?_ _)).or (within_fieldAt ?_ _) <;> decide
  simp (disch := omega) only [i2cControlWord, BitVec.getLsbD_or, BitVec.extractLsb'_or, getLsbD_flagAt, getLsbD_fieldAt,
    extractLsb'_flagAt, extractLsb'_fieldAt, extractLsb'_fieldAt_disjoint]
  simp

/-- Settles O45. -/
theorem controlReadsShowEveryField : Obligations.ControlReadsShowEveryField := fun s =>
  ⟨⟨_, rfl, uartControlWord_fields s.uart⟩, ⟨_, rfl, spiControlWord_fields s.spi⟩, ⟨_, rfl, i2cControlWord_fields s.i2c⟩⟩

/-! ## `IIR` (R54, R55, R378) -/

/-- The `IIR` word from what it shows: the three sources in order of priority, and `fcr_fifo_en`. -/
def iirOf (lineStatus received thrEmpty fifoEn : Bool) : Word :=
  (if lineStatus then 0x06 else if received then 0x04 else if thrEmpty then 0x02 else 0x01) ||| (if fifoEn then 0xC0 else 0x00)

theorem iirWord_eq (s : State) :
    iirWord s =
      iirOf (s.u16.elsi && s.u16.port.overrun) (s.u16.erbfi && rxThreshold .uart16550 s)
        (s.u16.etbei && isEmpty s.u16.port.tx) s.u16.fifoEn := rfl

theorem iirOf_fields : ∀ ls rd te fe : Bool,
    ((iirOf ls rd te fe).getLsbD 0 = false ↔ (ls || rd || te) = true) ∧
      iirOf ls rd te fe &&& 0xC0#32 = (if fe then 0xC0#32 else 0) ∧
      iirOf ls rd te fe &&& 0x3F#32 = (if ls then 6 else if rd then 4 else if te then 2 else 1) ∧
      iirOf ls rd te fe >>> 8 = 0 := by decide

/-- The line of the UART16550 is asserted when one of the three sources `IIR` identifies is (R200). -/
theorem lineLevel_uart16550 (s : State) :
    lineLevel .uart16550 s =
      (s.u16.elsi && s.u16.port.overrun || s.u16.erbfi && rxThreshold .uart16550 s ||
        s.u16.etbei && isEmpty s.u16.port.tx) := by
  simp [lineLevel, orOf, sources, orSource, qualifies, Bool.or_assoc]

theorem trigLevel_eq (code : BitVec 2) :
    trigLevel code = if code = 0 then 1 else if code = 1 then 4 else if code = 2 then 8 else 14 := by
  revert code
  decide

/-- Settles O48: `IIR` and the line are functions of the same three sources. -/
theorem iirFollowsTheLine : Obligations.IirFollowsTheLine := by
  intro s hline level
  refine ⟨iirWord s, rfl, ?_⟩
  have hlevel : rxThreshold .uart16550 s = decide (level ≤ s.u16.port.rx.length) := by
    rw [rxThreshold, rxLevel, trigLevel_eq]
    rfl
  have hempty : isEmpty s.u16.port.tx = decide (s.u16.port.tx = []) := by
    cases h : s.u16.port.tx <;> simp [isEmpty]
  obtain ⟨hnopend, hfifo, hcode, htop⟩ := iirOf_fields (s.u16.elsi && s.u16.port.overrun)
    (s.u16.erbfi && rxThreshold .uart16550 s) (s.u16.etbei && isEmpty s.u16.port.tx) s.u16.fifoEn
  rw [hline, lineLevel_uart16550, iirWord_eq]
  refine ⟨hnopend, hfifo, hcode.trans ?_, htop⟩
  simp only [hlevel, hempty, Bool.and_eq_true, decide_eq_true_eq]

/-! ## One tick (R226 to R230) -/

theorem cmpEval_eq (a : Bool) (v : Word) (c : Cmp) :
    cmpEval a v c =
      if v = c.target ∧ (a = false ∨ c.armed = true) then { c with pending := true, armed := false } else c := by
  unfold cmpEval
  by_cases htarget : v = c.target <;> simp [htarget]

section
variable {t : Timer} (a : Bool)

theorem tchAdvance_below (h : t.value.toNat + 1 < t.limit.toNat) : tchAdvance a t = { t with value := t.value + 1 } := by
  have hsum : BitVec.ofNat 32 (t.value.toNat + 1) = t.value + 1 := by
    rw [BitVec.ofNat_add, BitVec.ofNat_toNat, BitVec.setWidth_eq]
    rfl
  simp only [tchAdvance, if_neg (Nat.not_le.mpr h), hsum]

theorem tchAdvance_wrap (h : t.limit.toNat ≤ t.value.toNat + 1) (hone : t.oneshot = false) :
    tchAdvance a t = { t with ovfPending := true, value := 0, cmp := rearm a t.cmp } := by
  simp [tchAdvance, h, hone]

theorem tchAdvance_stop (h : t.limit.toNat ≤ t.value.toNat + 1) (hone : t.oneshot = true) :
    tchAdvance a t = { t with ovfPending := true, value := t.limit, running := false, cmp := rearm a t.cmp } := by
  simp [tchAdvance, h, hone]

/-- An advance leaves no value above the limit (R86 (e)). -/
theorem tchAdvance_le_limit : (tchAdvance a t).value.toNat ≤ (tchAdvance a t).limit.toNat := by
  by_cases h : t.value.toNat + 1 < t.limit.toNat
  · rw [tchAdvance_below a h]
    change (t.value + 1).toNat ≤ t.limit.toNat
    bv_omega
  · cases hone : t.oneshot with
    | false => rw [tchAdvance_wrap a (Nat.le_of_not_lt h) hone]; exact Nat.zero_le _
    | true => rw [tchAdvance_stop a (Nat.le_of_not_lt h) hone]

/-- A tick of a running channel: the count, then every compare channel against the value that results (R226, R230). -/
theorem tchTick_running (h : t.running = true) :
    tchTick a t = { tchCount a t with cmp := (tchCount a t).cmp.map (cmpEval a (tchCount a t).value) } := if_pos h

end

/-- Settles O51: the branches of the count (`tchCount_dwell`, `tchCount_advance`) and of the advance, in order. -/
theorem tickCountsOverflowsAndCompares : Obligations.TickCountsOverflowsAndCompares := by
  intro s T arm seen rearmed T'
  have hseen : seen = cmpEval arm := by
    funext v c
    exact (cmpEval_eq arm v c).symm
  have hT' : T' = tchTick arm T := by
    by_cases hidle : T.running = false
    · rw [tchTick_idle arm hidle]
      exact if_pos hidle
    refine (if_neg hidle).trans ?_
    rw [tchTick_running arm (Bool.not_eq_false _ ▸ hidle), ← hseen]
    by_cases hdwell : T.prescCnt + 1 < T.prescaler.toNat
    · rw [tchCount_dwell arm hdwell]
      exact if_pos hdwell
    refine (if_neg hdwell).trans ?_
    rw [tchCount_advance arm (Nat.le_of_not_lt hdwell)]
    by_cases hbelow : T.value.toNat + 1 < T.limit.toNat
    · rw [tchAdvance_below (t := { T with prescCnt := 0 }) arm hbelow]
      exact if_pos hbelow
    refine (if_neg hbelow).trans ?_
    have hlimit := Nat.le_of_not_lt hbelow
    by_cases hone : T.oneshot = false
    · rw [tchAdvance_wrap (t := { T with prescCnt := 0 }) arm hlimit hone]
      exact if_pos hone
    · rw [tchAdvance_stop (t := { T with prescCnt := 0 }) arm hlimit (Bool.not_eq_false _ ▸ hone)]
      exact if_neg hone
  refine ⟨?event, ?operation, fun hrun hdue => ?bound⟩
  case event =>
    obtain ⟨t, hexec, htimer, hframed⟩ := hook_timer s (tchTick arm T)
    exact ⟨t, hexec, hframed, htimer.trans hT'.symm⟩
  case operation =>
    rw [hT']
    rfl
  case bound =>
    rw [hT', tchTick_running arm hrun, tchCount_advance arm hdue]
    exact tchAdvance_le_limit arm

end Sys2Proof.Machine
end

section
/-! The external memory and the DMA request: `MemCopy` byte by byte, the requests that transfer nothing, and the one refusal a stimulus can meet. -/

namespace Sys2Proof.Machine

/-! ## `MemCopy`, byte by byte (R96) -/

/-- Fewer than 2^32 steps from an address never lead back to it (R11). -/
theorem addrPlus_inj {a : Word} {i j : Nat} (hi : i < 2 ^ 32) (hj : j < 2 ^ 32) (h : addrPlus a i = addrPlus a j) : i = j := by
  have hofNat : BitVec.ofNat 32 i = BitVec.ofNat 32 j := (BitVec.add_right_inj a).mp (BitVec.eq_of_toNat_eq h)
  have htoNat := congrArg BitVec.toNat hofNat
  rwa [BitVec.toNat_ofNat, BitVec.toNat_ofNat, Nat.mod_eq_of_lt hi, Nat.mod_eq_of_lt hj] at htoNat

theorem memRead_copyBytes_outside {old m : Memory} {src dst : Word} {a : Nat} : ∀ {n : Nat},
    (∀ i < n, a ≠ addrPlus dst i) → memRead (copyBytes old src dst n m) a = memRead m a
  | 0, _ => rfl
  | n + 1, h => by
    have hprefix := memRead_copyBytes_outside (old := old) (m := m) (src := src) (n := n) fun i hi => h i (by omega)
    rw [copyBytes, memRead_memWrite_ne _ _ (h n (Nat.lt_succ_self n)), hprefix]

/-- The last write to an address in range decides, and no later turn of the loop reaches the address again. -/
theorem memRead_copyBytes_inside {old m : Memory} {src dst : Word} {i : Nat} (hwf : Memory.wf m = true) : ∀ {n : Nat},
    n ≤ 2 ^ 32 → i < n → memRead (copyBytes old src dst n m) (addrPlus dst i) = memRead old (addrPlus src i)
  | n + 1, hn, hi => by
    rw [copyBytes]
    rcases Nat.lt_succ_iff_lt_or_eq.mp hi with hlt | rfl
    · have hne : addrPlus dst i ≠ addrPlus dst n := fun h => hlt.ne (addrPlus_inj (by omega) (by omega) h)
      rw [memRead_memWrite_ne _ _ hne, memRead_copyBytes_inside hwf (by omega) hlt]
    · exact memRead_memWrite_same _ _ (copyBytes_wf old src dst i hwf)

/-- Settles O55: a byte in the destination range and a byte outside it, by induction on the count. -/
theorem memCopyIsASnapshotCopy : Obligations.MemCopyIsASnapshotCopy := fun _ src dst n hwf =>
  ⟨memCopy_wf src dst n hwf, fun _ hi => memRead_copyBytes_inside hwf n.isLt.le hi, fun _ => memRead_copyBytes_outside⟩

/-! ## Requests that transfer nothing (R97, R265, R268) -/

section
variable {n : Nat} {c : DmaChannel} {s : State}

theorem dchTrigger_idle (h : c.enabled = false ∨ c.count = 0) : dchTrigger n c s = .next s := if_pos (by simpa using h)

theorem dchTrigger_touching (hen : c.enabled = true) (hcount : c.count ≠ 0)
    (htouch : touchesWindow s.cfg c.src c.dst c.count = true) : dchTrigger n c s = .refused .dmaTouchesWindow := by
  have hready : ¬(!c.enabled || c.count == 0) = true := by simpa [hen] using hcount
  exact (if_neg hready).trans (if_pos htouch)

theorem dmaRequest_of_none (hc : chanAt s n = none) : dmaRequest n s = .next (warn (.badChannel n) s) := by
  simp only [dmaRequest, hc]

theorem dmaRequest_of_enabled (hc : chanAt s n = some c) (hen : s.dma.en = true) : dmaRequest n s = dchTrigger n c s := by
  simp only [dmaRequest, hc, hen, if_true]

/-- Whichever enable is off, and without a count, a request to a channel of the block does nothing at all. -/
theorem dmaRequest_idle (hc : chanAt s n = some c) (h : s.dma.en = false ∨ c.enabled = false ∨ c.count = 0) :
    dmaRequest n s = .next s := by
  cases hen : s.dma.en with
  | false => simp only [dmaRequest, hc, hen, if_neg Bool.false_ne_true]
  | true => exact (dmaRequest_of_enabled hc hen).trans (dchTrigger_idle (h.resolve_left (by simp [hen])))

theorem dmaRequest_touching (hc : chanAt s n = some c) (hctl : s.dma.en = true) (hen : c.enabled = true) (hcount : c.count ≠ 0)
    (htouch : touchesWindow s.cfg c.src c.dst c.count = true) : dmaRequest n s = .refused .dmaTouchesWindow :=
  (dmaRequest_of_enabled hc hctl).trans (dchTrigger_touching hen hcount htouch)

end

section
variable {c : DmaChannel} {s : State}

theorem exec_opDchTrigger_of_some {m : BitVec 16} (hc : chanAt s m.toNat = some c) :
    exec (.opDchTrigger m) s = andThen (dchTrigger m.toNat c s) done := by
  simp only [exec, execOpDchTrigger, hc]

/-- A `CTRL` write with `START` set makes its request after its fields are stored (R451). -/
theorem exec_wrDmaChCtrl_start {n : BitVec 3} {v : Word} (hc : chanAt s n.toNat = some c) (hstart : v.getLsbD 1 = true) :
    exec (.wrDmaChCtrl n v) s =
      andThen (dmaRequest n.toNat (setChan s n.toNat (setChanCtrl v c))) (hook .dma) := by
  simp only [exec, execWrDmaChCtrl, hc, hstart, if_true]

/-- An event whose request leaves the state as it was but for the trace still settles the line. -/
theorem exec_evDmaReq_framed {m : BitVec 16} {outs : List Output}
    (h : dmaRequest m.toNat s = .next { s with trace := s.trace ++ outs }) :
    ∃ t, exec (.evDmaReq m) s = .next t ∧ t.dma = s.dma ∧ Framed .dma outs .nothing s t := by
  have honly : OnlyWindow .dma s { s with trace := s.trace ++ outs } :=
    ⟨rfl, rfl, fun x _ => ⟨by cases x <;> rfl, lineOf_withTrace x _ s⟩⟩
  obtain ⟨t, hhook, hdma, hframed⟩ := hook_framed honly (fun _ => rfl) (lineOf_withTrace .dma _ s) rfl
  refine ⟨t, ?_, hdma, hframed⟩
  rw [← hhook]
  exact congrArg (andThen · (hook .dma)) h

end

/-- Settles O57: a request that does nothing, warns or is refused, under each stimulus that makes one. -/
theorem requestsDroppedWithoutTransfer : Obligations.RequestsDroppedWithoutTransfer := by
  intro m q c s
  refine ⟨fun hq => ?requestBad, fun hm => ?eventBad, fun hc hidle => ?triggerIdle, fun hc hidle => ?eventIdle,
    fun hc hidle => ?requestIdle, fun hc hen hcount htouch => ⟨?triggerTouching, fun hctl => ?eventTouching⟩,
    fun hc hen hcount htouch hctl => ?requestTouching, fun n v hc hen hstart hcount htouch hctl => ?startTouching,
    fun n v hc hstart hidle => ?startIdle, fun hm a b e f => ?operationBad⟩
  case requestBad => exact congrArg (andThen · done) (dmaRequest_of_none (chanAt_none hq))
  case eventBad => exact exec_evDmaReq_framed (dmaRequest_of_none (chanAt_none hm))
  case triggerIdle =>
    rw [exec_opDchTrigger_of_some hc, dchTrigger_idle hidle]
    rfl
  case eventIdle =>
    refine exec_evDmaReq_framed ?_
    rw [List.append_nil]
    exact dmaRequest_idle hc hidle
  case requestIdle => exact congrArg (andThen · done) (dmaRequest_idle hc hidle)
  case triggerTouching =>
    rw [exec_opDchTrigger_of_some hc, dchTrigger_touching hen hcount htouch]
    rfl
  case eventTouching => exact congrArg (andThen · (hook .dma)) (dmaRequest_touching hc hctl hen hcount htouch)
  case requestTouching => exact congrArg (andThen · done) (dmaRequest_touching hc hctl hen hcount htouch)
  case startTouching =>
    have hstored := chanAt_setChan_same (setChanCtrl v c) hc
    rw [exec_wrDmaChCtrl_start hc hstart, dmaRequest_touching hstored hctl hen hcount htouch]
    rfl
  case startIdle =>
    have hstored := chanAt_setChan_same (setChanCtrl v c) hc
    have hnone : s.dma.en = false ∨ v.getLsbD 0 = false ∨ c.count = 0 := by tauto
    rw [exec_wrDmaChCtrl_start hc hstart, dmaRequest_idle hstored hnone]
    obtain ⟨t, hhook, hdma, hframed⟩ := hook_dma s { s.dma with ch := s.dma.ch.set n.toNat (setChanCtrl v c) }
    exact ⟨t, hhook, hframed, hdma⟩
  case operationBad =>
    have hc : chanAt s m.toNat = none := chanAt_none hm
    simp only [exec, execOpDchTrigger, execOpDchConfigure, execOpDchSetEnabled, hc]
    exact ⟨rfl, rfl, rfl⟩

/-! ## Nothing but a transfer into a window is refused (R97, R480) -/

/-- The outcome is a next state, or R97's refusal: of a stimulus that may transfer, in a block with a window in `Mem`. -/
def NextOrTouching (moves : Bool) (c : Config) (o : Host.Outcome State Fault Refusal) : Prop :=
  (∃ t, o = .next t) ∨ (o = .refused .dmaTouchesWindow ∧ moves = true ∧ c.bases ≠ [])

section
variable {moves : Bool} {c : Config} {o : Host.Outcome State Fault Refusal}

theorem nextOrTouching_next (t : State) : NextOrTouching moves c (.next t) := .inl ⟨t, rfl⟩

/-- Going on with something that always completes. -/
theorem NextOrTouching.andThen {f : State → Host.Outcome State Fault Refusal} (h : NextOrTouching moves c o)
    (hf : ∀ s, ∃ t, f s = .next t) : NextOrTouching moves c (andThen o f) := by
  obtain ⟨s, rfl⟩ | ⟨rfl, hmoves, hbases⟩ := h
  · exact .inl (hf s)
  · exact .inr ⟨rfl, hmoves, hbases⟩

theorem NextOrTouching.andThen_done (h : NextOrTouching moves c o) : NextOrTouching moves c (Machine.andThen o done) :=
  h.andThen fun _ => ⟨_, rfl⟩

theorem NextOrTouching.andThen_hook (h : NextOrTouching moves c o) (w : Window) :
    NextOrTouching moves c (Machine.andThen o (hook w)) := h.andThen fun _ => ⟨_, rfl⟩

theorem bases_ne_nil_of_touchesWindow {src dst n : Word} (h : touchesWindow c src dst n = true) : c.bases ≠ [] := by
  intro hnil
  simp [touchesWindow, hnil] at h

end

theorem nextOrTouching_dchTrigger (n : Nat) (c : DmaChannel) (s : State) : NextOrTouching true s.cfg (dchTrigger n c s) := by
  rcases dchTrigger_cases n c s with ⟨_, h⟩ | ⟨_, _, htouch, h⟩ | ⟨_, _, _, h⟩ <;> rw [h]
  · exact nextOrTouching_next s
  · exact .inr ⟨rfl, rfl, bases_ne_nil_of_touchesWindow htouch⟩
  · exact nextOrTouching_next _

theorem nextOrTouching_dmaRequest (n : Nat) (s : State) : NextOrTouching true s.cfg (dmaRequest n s) := by
  rcases dmaRequest_cases n s with ⟨_, h⟩ | ⟨_, _, _, h⟩ | ⟨c, _, _, h⟩ <;> rw [h]
  · exact nextOrTouching_next _
  · exact nextOrTouching_next s
  · exact nextOrTouching_dchTrigger n c s

theorem nextOrTouching_hookAction (w : Window) (off : Nat) (v : Word) (s : State) :
    NextOrTouching (w == .dma && v.getLsbD 1) s.cfg (hookAction w off v s) := by
  cases w with
  | dma =>
    simp only [hookAction]
    split
    next h =>
      obtain ⟨_, _, hstart⟩ := h
      rw [hstart]
      exact nextOrTouching_dmaRequest _ s
    · exact nextOrTouching_next s
  | gpio | uart | uart16550 | spi | i2c | timer | intc => exact nextOrTouching_next _

theorem nextOrTouching_rbWrite (w : Window) (off : Nat) (v : Word) (s : State) :
    NextOrTouching (w == .dma && v.getLsbD 1) s.cfg (rbWrite w off v s) := by
  unfold rbWrite
  split
  · exact nextOrTouching_next _
  next r _ =>
    have hcfg : (r.fields.foldl (writeStep v) s).cfg = s.cfg := (advances_writeSteps false v r.fields s).cfg
    exact (hcfg ▸ nextOrTouching_hookAction w off v _ : NextOrTouching _ s.cfg _).andThen_hook w

theorem nextOrTouching_wrDmaChCtrl (n : BitVec 3) (v : Word) (s : State) :
    NextOrTouching (v.getLsbD 1) s.cfg (execWrDmaChCtrl n v s) := by
  unfold execWrDmaChCtrl
  split
  next c _ =>
    refine NextOrTouching.andThen_hook ?_ .dma
    cases v.getLsbD 1 with
    | false => exact nextOrTouching_next _
    | true => exact nextOrTouching_dmaRequest n.toNat (setChan s n.toNat (setChanCtrl v c))
  · exact nextOrTouching_next _

/-- Every stimulus but the definition check: those that may transfer go through the request; those with a branch for a
Register, pin, source, channel or compare channel the block does not have complete on either side; all others compute a next
state outright. -/
theorem exec_nextOrTouching {i : Instr} (s : State) (hdef : ∀ bank, i ≠ .opRbDefine bank) :
    NextOrTouching (mayTransfer i) s.cfg (exec i s) := by
  cases i
  case opRbDefine bank => exact absurd rfl (hdef bank)
  case wrDmaChCtrl n v => exact nextOrTouching_wrDmaChCtrl n v s
  case evDmaReq ch => exact (nextOrTouching_dmaRequest ch.toNat s).andThen_hook .dma
  case opDmaRequest n => exact (nextOrTouching_dmaRequest n.toNat s).andThen_done
  case opRbWrite bank off v => exact nextOrTouching_rbWrite bank off.toNat v s
  case opDchTrigger =>
    simp only [exec, execOpDchTrigger]
    split
    · exact (nextOrTouching_dchTrigger _ _ s).andThen_done
    · exact nextOrTouching_next _
  case opRbRead =>
    simp only [exec, execOpRbRead, rbRead]
    split <;> exact nextOrTouching_next _
  case rdGpioIe | rdGpioIs | rdGpioIt | rdGpioIp | rdGpioEdge =>
    simp only [exec, execRdGpioIe, execRdGpioIs, execRdGpioIt, execRdGpioIp, execRdGpioEdge, gpioExtRead]
    split <;> exact nextOrTouching_next _
  case wrGpioIe | wrGpioIs | wrGpioIt | wrGpioIp | wrGpioEdge =>
    simp only [exec, execWrGpioIe, execWrGpioIs, execWrGpioIt, execWrGpioIp, execWrGpioEdge, gpioExtWrite]
    split <;> exact nextOrTouching_next _
  case evGpioPin | evIntcSrc =>
    simp only [exec, execEvGpioPin, execEvIntcSrc]
    split <;> exact nextOrTouching_next _
  case rdTimerCmpTarget | rdTimerCmpCtrl | rdDmaChSrc | rdDmaChDst | rdDmaChCount | rdDmaChCtrl | rdIntcPriority =>
    simp only [exec, execRdTimerCmpTarget, execRdTimerCmpCtrl, execRdDmaChSrc, execRdDmaChDst, execRdDmaChCount,
      execRdDmaChCtrl, execRdIntcPriority]
    split <;> exact nextOrTouching_next _
  case wrTimerCmpTarget | wrTimerCmpCtrl | wrDmaChSrc | wrDmaChDst | wrDmaChCount | wrIntcPriority =>
    simp only [exec, execWrTimerCmpTarget, execWrTimerCmpCtrl, execWrDmaChSrc, execWrDmaChDst, execWrDmaChCount,
      execWrIntcPriority]
    split <;> exact nextOrTouching_next _
  case opCmpEval | opDchConfigure | opDchSetEnabled =>
    simp only [exec, execOpCmpEval, execOpDchConfigure, execOpDchSetEnabled]
    split <;> exact nextOrTouching_next _
  all_goals exact nextOrTouching_next _

/-- Settles O28: the two outcomes of `exec_nextOrTouching`. -/
theorem everyStimulusCompletes : Obligations.EveryStimulusCompletes := by
  intro i s hdef
  obtain ⟨t, h⟩ | ⟨h, hmoves, hbases⟩ := exec_nextOrTouching s hdef <;> rw [h]
  · exact ⟨nofun, nofun, fun _ => ⟨t, rfl⟩⟩
  · refine ⟨nofun, fun r hr => ?_, fun hnone => absurd hnone hbases⟩
    cases hr
    exact ⟨rfl, hmoves⟩

end Sys2Proof.Machine
end

section
/-! The encoding (R111 to R120): the parts of a key, one equation of the decoder per class, the operand words read back, and
what a decoded stimulus is. -/

namespace Sys2Proof.Machine

/-! ## The parts of a key (R111) -/

section
variable (pid cls : BitVec 4) (arg : BitVec 12)

theorem extractLsb'_key_arg : (pid ++ cls ++ arg).extractLsb' 0 12 = arg := BitVec.extractLsb'_append_eq_right

theorem extractLsb'_key_cls : (pid ++ cls ++ arg).extractLsb' 12 4 = cls := by
  rw [BitVec.extractLsb'_append_eq_of_le (by omega)]
  exact BitVec.extractLsb'_append_eq_right

theorem extractLsb'_key_pid : (pid ++ cls ++ arg).extractLsb' 16 4 = pid := by
  rw [BitVec.extractLsb'_append_eq_of_le (by omega)]
  exact BitVec.extractLsb'_append_eq_left

end

/-- Every key is its pid, its class and its argument. -/
theorem exists_key (k : BitVec 20) : ∃ (pid cls : BitVec 4) (arg : BitVec 12), k = pid ++ cls ++ arg := by
  refine ⟨k.extractLsb' 16 4, k.extractLsb' 12 4, k.extractLsb' 0 12, ?_⟩
  rw [BitVec.extractLsb'_append_extractLsb'_eq_extractLsb' (by omega),
    BitVec.extractLsb'_append_extractLsb'_eq_extractLsb' (by omega)]
  exact BitVec.extractLsb'_eq_self.symm

theorem getLsbD_three_eq (pid : BitVec 4) : pid.getLsbD 3 = decide (8 ≤ pid.toNat) := by
  revert pid
  decide

theorem windowOfBits_pidOf (w : Window) : windowOfBits ((pidOf w).extractLsb' 0 3) = w := by cases w <;> rfl

theorem pidOf_toNat_le (w : Window) : (pidOf w).toNat ≤ 7 := by cases w <;> decide

theorem pidOf_windowOfBits {pid : BitVec 4} (h : pid.toNat ≤ 7) : pidOf (windowOfBits (pid.extractLsb' 0 3)) = pid := by
  revert pid
  decide

/-- The pids up to 7 are those of the windows (R112). -/
theorem exists_pidOf {pid : BitVec 4} (h : pid.toNat ≤ 7) : ∃ w, pid = pidOf w :=
  ⟨_, (pidOf_windowOfBits h).symm⟩

/-! ## The decoder, class by class (R111, R119) -/

section
variable (ms : Bool) (pid cls : BitVec 4) (arg : BitVec 12) (d : Word) (ops : List Word)

theorem decode_read (w : Window) : decode ms ⟨pidOf w ++ (0 : BitVec 4) ++ arg, d, ops⟩ = .ok (decodeRead ms w arg) := by
  simp only [decode, extractLsb'_key_arg, extractLsb'_key_cls, extractLsb'_key_pid, windowOfBits_pidOf]
  cases w <;> rfl

theorem decode_write (w : Window) : decode ms ⟨pidOf w ++ (1 : BitVec 4) ++ arg, d, ops⟩ = .ok (decodeWrite ms w arg d) := by
  simp only [decode, extractLsb'_key_arg, extractLsb'_key_cls, extractLsb'_key_pid, windowOfBits_pidOf]
  cases w <;> rfl

theorem decode_event (w : Window) : decode ms ⟨pidOf w ++ (2 : BitVec 4) ++ arg, d, ops⟩ = decodeEvent w arg d := by
  simp only [decode, extractLsb'_key_arg, extractLsb'_key_cls, extractLsb'_key_pid, windowOfBits_pidOf]
  cases w <;> rfl

theorem decode_op : decode ms ⟨(0xF : BitVec 4) ++ (3 : BitVec 4) ++ arg, d, ops⟩ = decodeOp arg d ops := by
  simp only [decode, extractLsb'_key_arg, extractLsb'_key_cls, extractLsb'_key_pid]
  rfl

variable {cls pid}

theorem decode_badClass (h : 4 ≤ cls.toNat) : decode ms ⟨pid ++ cls ++ arg, d, ops⟩ = .error .badClass := by
  obtain ⟨n, hn⟩ : ∃ n, cls.toNat = n + 4 := ⟨cls.toNat - 4, by omega⟩
  simp only [decode, extractLsb'_key_cls, hn]

theorem decode_badPid (hcls : cls.toNat ≤ 2) (hpid : 8 ≤ pid.toNat) :
    decode ms ⟨pid ++ cls ++ arg, d, ops⟩ = .error .badPid := by
  obtain h | h | h : cls.toNat = 0 ∨ cls.toNat = 1 ∨ cls.toNat = 2 := by omega
  all_goals
    simp only [decode, extractLsb'_key_cls, extractLsb'_key_pid, h, getLsbD_three_eq, hpid, decide_true, if_true]

theorem decode_badPid_op (hpid : pid ≠ 0xF) : decode ms ⟨pid ++ (3 : BitVec 4) ++ arg, d, ops⟩ = .error .badPid := by
  simp only [decode, extractLsb'_key_cls, extractLsb'_key_pid]
  exact if_neg hpid

end

/-- A key is a bus read, a bus write or an event of a window, a component operation, or refused whatever comes with it (R111). -/
theorem key_cases (key : BitVec 20) :
    (∃ w, ∃ arg : BitVec 12, key = pidOf w ++ (0 : BitVec 4) ++ arg) ∨ (∃ w, ∃ arg : BitVec 12, key = pidOf w ++ (1 : BitVec 4) ++ arg) ∨
      (∃ w, ∃ arg : BitVec 12, key = pidOf w ++ (2 : BitVec 4) ++ arg) ∨ (∃ arg : BitVec 12, key = (0xF : BitVec 4) ++ (3 : BitVec 4) ++ arg) ∨
      ∃ e, ∀ ms d ops, decode ms ⟨key, d, ops⟩ = .error e := by
  obtain ⟨pid, cls, arg, rfl⟩ := exists_key key
  by_cases hclass : 4 ≤ cls.toNat
  · exact .inr (.inr (.inr (.inr ⟨_, fun ms d ops => decode_badClass ms arg d ops hclass⟩)))
  by_cases hop : cls = 3
  · subst hop
    by_cases hpid : pid = 0xF
    · exact .inr (.inr (.inr (.inl ⟨arg, hpid ▸ rfl⟩)))
    · exact .inr (.inr (.inr (.inr ⟨_, fun ms d ops => decode_badPid_op ms arg d ops hpid⟩)))
  by_cases hpid : 8 ≤ pid.toNat
  · exact .inr (.inr (.inr (.inr ⟨_, fun ms d ops => decode_badPid ms arg d ops (by bv_omega) hpid⟩)))
  obtain ⟨w, rfl⟩ := exists_pidOf (Nat.le_of_lt_succ (Nat.lt_of_not_le hpid))
  obtain rfl | rfl | rfl : cls = 0 ∨ cls = 1 ∨ cls = 2 := by bv_omega
  · exact .inl ⟨w, arg, rfl⟩
  · exact .inr (.inl ⟨w, arg, rfl⟩)
  · exact .inr (.inr (.inl ⟨w, arg, rfl⟩))

/-- A stimulus is a bus read or write of a window, an event of a window, or a component operation (R110, R111). -/
theorem decode_ok_cases {ms : Bool} {r : RawStimulus} {i : Instr} (h : decode ms r = .ok i) :
    (∃ w off, i = decodeRead ms w off) ∨ (∃ w off, i = decodeWrite ms w off r.data) ∨
      (∃ w arg, decodeEvent w arg r.data = .ok i) ∨ ∃ arg, decodeOp arg r.data r.ops = .ok i := by
  obtain ⟨key, d, ops⟩ := r
  obtain ⟨w, arg, rfl⟩ | ⟨w, arg, rfl⟩ | ⟨w, arg, rfl⟩ | ⟨arg, rfl⟩ | ⟨e, he⟩ := key_cases key
  · rw [decode_read] at h
    cases h
    exact .inl ⟨w, arg, rfl⟩
  · rw [decode_write] at h
    cases h
    exact .inr (.inl ⟨w, arg, rfl⟩)
  · exact .inr (.inr (.inl ⟨w, arg, (decode_event ..).symm.trans h⟩))
  · exact .inr (.inr (.inr ⟨arg, (decode_op ..).symm.trans h⟩))
  · rw [he] at h
    cases h

/-- Settles O4: each key, decoded. -/
theorem specKeysDecode : Obligations.SpecKeysDecode := ⟨rfl, rfl, rfl, rfl, rfl, rfl, rfl, rfl, rfl, rfl, rfl⟩

/-! ## Decoded stimuli are well formed (R117, R120, R199) -/

/-- A stimulus that a bus may issue under the mapping: well formed, and its Register active. -/
abbrev Admitted (ms : Bool) (i : Instr) : Prop := i.wf = true ∧ i.mapping.active ms = true

/-- A slot of the compare blocks, 2 to 15, names a compare index below 14 (R117). -/
theorem cmpIndexWf_slot {off : BitVec 12} (h : inCmpBlock off = true) : cmpIndexWf (slotOf off - 2) = true := by
  have hslot : 2 ≤ (slotOf off).toNat := by
    simp only [inCmpBlock, Bool.and_eq_true, decide_eq_true_eq] at h
    exact h.2
  exact decide_eq_true (by bv_omega)

section
variable {ms : Bool} {off arg : BitVec 12} {v d : Word} {ops : List Word} {i : Instr}

theorem admitted_timerRow (h : readTimer off = some i ∨ writeTimer off v = some i) : Admitted ms i := by
  rcases h with h | h
  all_goals
    simp only [readTimer, writeTimer] at h
    split at h
    case h_1 | h_2 | h_3 | h_4 | h_5 => cases h; exact ⟨rfl, rfl⟩
    case h_6 =>
      split at h
      next hblock => split at h <;> cases h <;> exact ⟨cmpIndexWf_slot hblock, rfl⟩
      next => cases h

theorem admitted_dmaRow (h : readDma off = some i ∨ writeDma off v = some i) : Admitted ms i := by
  rcases h with h | h
  all_goals
    simp only [readDma, writeDma] at h
    split at h
    next => cases h; exact ⟨rfl, rfl⟩
    next =>
      split at h
      next => split at h <;> cases h <;> exact ⟨rfl, rfl⟩
      next => cases h

theorem admitted_intcRow (h : readIntc off = some i ∨ writeIntc off v = some i) : Admitted ms i := by
  rcases h with h | h
  all_goals
    simp only [readIntc, writeIntc] at h
    split at h
    case h_1 | h_2 => cases h; exact ⟨rfl, rfl⟩
    case h_3 => split at h <;> cases h; exact ⟨rfl, rfl⟩

theorem admitted_uart16550Row (h : readUart16550 ms off = some i ∨ writeUart16550 ms off v = some i) : Admitted ms i := by
  rcases h with h | h
  all_goals
    simp only [readUart16550, writeUart16550] at h
    split at h <;> cases h <;> cases ms <;> exact ⟨rfl, rfl⟩

theorem admitted_row (w : Window) (h : readRow ms w off = some i ∨ writeRow ms w off v = some i) : Admitted ms i := by
  cases w with
  | timer => exact admitted_timerRow h
  | dma => exact admitted_dmaRow h
  | intc => exact admitted_intcRow h
  | uart16550 => exact admitted_uart16550Row h
  | gpio | uart | spi | i2c =>
    rcases h with h | h
    all_goals
      simp only [readRow, writeRow, readGpio, writeGpio, readUart, writeUart, readSpi, writeSpi, readI2c, writeI2c] at h
      split at h <;> cases h <;> exact ⟨rfl, rfl⟩

theorem admitted_decodeRead (w : Window) : Admitted ms (decodeRead ms w off) := by
  rw [decodeRead]
  cases h : readRow ms w off with
  | none => exact ⟨rfl, rfl⟩
  | some i => exact admitted_row (v := 0) w (.inl h)

theorem admitted_decodeWrite (w : Window) : Admitted ms (decodeWrite ms w off v) := by
  rw [decodeWrite]
  cases h : writeRow ms w off v with
  | none => exact ⟨rfl, rfl⟩
  | some i => exact admitted_row w (.inr h)

theorem admitted_decodeEvent (w : Window) (h : decodeEvent w arg d = .ok i) : Admitted ms i := by
  unfold decodeEvent at h
  split at h <;> cases h <;> exact ⟨rfl, rfl⟩

/-- As many fields as asked for. -/
theorem length_takeFields : ∀ {n : Nat} {ws rest : List Word} {fs : List FieldDesc},
    takeFields n ws = some (fs, rest) → fs.length = n
  | 0, _, _, _, h => by cases h; rfl
  | n + 1, a :: r :: ws, _, _, h => by
    obtain ⟨⟨fs, rest⟩, htake, hcons⟩ := Option.map_eq_some_iff.mp h
    cases hcons
    exact congrArg (· + 1) (length_takeFields htake)
  | n + 1, [], _, _, h => by cases h
  | n + 1, [_], _, _, h => by cases h

/-- The field count of a Register word has 8 bits (log 5). -/
theorem bankWf_takeRegs : ∀ {fuel : Nat} {ws : List Word} {bank : List RegDesc}, takeRegs fuel ws = some bank → bankWf bank = true := by
  intro fuel ws
  fun_induction takeRegs fuel ws <;> intro bank h
  · cases h; rfl
  next fs _ hfields _ ih =>
    obtain ⟨bank', hrest, rfl⟩ := Option.map_eq_some_iff.mp h
    have hlen : fs.length < 256 := by
      rw [length_takeFields hfields]
      exact BitVec.isLt _
    exact Bool.and_eq_true_iff.mpr ⟨decide_eq_true hlen, ih hrest⟩
  · cases h
  · cases h

theorem admitted_decodeOp (h : decodeOp arg d ops = .ok i) : Admitted ms i := by
  unfold decodeOp at h
  dsimp only at h
  split at h
  case h_4 =>
    split at h <;> cases h
    next hbank => exact ⟨bankWf_takeRegs hbank, rfl⟩
  case h_14 =>
    split at h <;> cases h
    next hlen => exact ⟨decide_eq_true (by simpa using hlen), rfl⟩
  all_goals cases h <;> exact ⟨rfl, rfl⟩

end

/-- Settles O2. -/
theorem decodedStimuliAreWellFormed : Obligations.DecodedStimuliAreWellFormed := by
  intro ms r i h
  obtain ⟨w, off, rfl⟩ | ⟨w, off, rfl⟩ | ⟨w, arg, hev⟩ | ⟨arg, hop⟩ := decode_ok_cases h
  · exact admitted_decodeRead w
  · exact admitted_decodeWrite w
  · exact admitted_decodeEvent w hev
  · exact admitted_decodeOp hop

/-! ## Keys that spell no stimulus (R113, R114, R119) -/

/-- The events of a window are its first two, and a third of the UART16550 (R113). -/
theorem decodeEvent_ok {w : Window} {arg : BitVec 12} (d : Word) (h : arg.toNat ≤ 1 ∨ (arg = 2 ∧ pidOf w = 2)) :
    ∃ i, decodeEvent w arg d = .ok i := by
  obtain rfl | rfl | ⟨rfl, hw⟩ : arg = 0 ∨ arg = 1 ∨ (arg = 2 ∧ pidOf w = 2) := by
    rcases h with h | h
    · bv_omega
    · exact .inr (.inr h)
  · cases w <;> exact ⟨_, rfl⟩
  · cases w <;> exact ⟨_, rfl⟩
  · cases w <;> cases hw
    exact ⟨_, rfl⟩

theorem decodeEvent_badEvent {w : Window} {arg : BitVec 12} (d : Word) (h : ¬(arg.toNat ≤ 1 ∨ (arg = 2 ∧ pidOf w = 2))) :
    decodeEvent w arg d = .error .badEvent := by
  rw [not_or, not_and] at h
  obtain ⟨hnum, hmap⟩ := h
  by_cases h2 : arg = 2
  · subst h2
    cases w
    case uart16550 => exact absurd rfl (hmap rfl)
    all_goals rfl
  · obtain ⟨n, hn⟩ : ∃ n, arg.toNat = n + 3 := ⟨arg.toNat - 3, by bv_omega⟩
    simp only [decodeEvent, hn]

/-- The operation numbers of R114. -/
def opNumbers : List Nat :=
  [0x001, 0x002, 0x003, 0x004, 0x010, 0x011, 0x012, 0x013, 0x014, 0x015, 0x020, 0x021, 0x022, 0x023, 0x030, 0x031, 0x032,
    0x033, 0x040, 0x041, 0x042, 0x043, 0x050, 0x051, 0x052, 0x053]

section
variable {arg : BitVec 12} (d : Word) {ops : List Word}

theorem decodeOp_badOp (h : arg.toNat ∉ opNumbers) : decodeOp arg d ops = .error .badOp := by
  unfold decodeOp
  dsimp only
  split
  case h_27 => rfl
  all_goals simp_all [opNumbers]

theorem decodeOp_define {bank : List RegDesc} (h : takeRegs ops.length ops = some bank) :
    decodeOp 0x004 d ops = .ok (.opRbDefine bank) := by
  simp [decodeOp, h]

theorem decodeOp_badBank (h : takeRegs ops.length ops = none) : decodeOp 0x004 d ops = .error .badBank := by
  simp [decodeOp, h]

theorem decodeOp_snapshot (h : ops.length ≤ 32) : decodeOp 0x023 d ops = .ok (.opAggSnapshot (ops.map sourceOfWord)) := if_pos h

theorem decodeOp_tooManySources (h : 32 < ops.length) : decodeOp 0x023 d ops = .error .tooManySources :=
  if_neg (Nat.not_le.mpr h)

/-- Every operation but the definition check and the snapshot takes whatever words it is given (log 5). -/
theorem decodeOp_ok (harg : arg.toNat ∈ opNumbers) (hdefine : arg ≠ 0x004) (hsnapshot : arg ≠ 0x023) :
    ∃ i, decodeOp arg d ops = .ok i := by
  unfold decodeOp
  dsimp only
  split
  case h_4 h => exact absurd (BitVec.eq_of_toNat_eq h) hdefine
  case h_14 h => exact absurd (BitVec.eq_of_toNat_eq h) hsnapshot
  case h_27 => simp_all [opNumbers]
  all_goals exact ⟨_, rfl⟩

end

/-- Settles O3: the equations of `decode` class by class, then those of the events and of the operations. -/
theorem undefinedKeysAreRefused : Obligations.UndefinedKeysAreRefused := by
  intro ms pid cls arg d ops r
  refine ⟨decode_badClass ms arg d ops, decode_badPid ms arg d ops, fun hcls hpid => ?pid, fun hcls hpid => ?bus,
    fun hcls hpid => ?event, fun hcls hpid => ?operation⟩
  case pid =>
    subst hcls
    exact decode_badPid_op ms arg d ops hpid
  case bus =>
    obtain ⟨w, rfl⟩ := exists_pidOf hpid
    obtain rfl | rfl : cls = 0 ∨ cls = 1 := by bv_omega
    · exact ⟨_, decode_read ms arg d ops w⟩
    · exact ⟨_, decode_write ms arg d ops w⟩
  case event =>
    subst hcls
    obtain ⟨w, rfl⟩ := exists_pidOf hpid
    rw [show decode ms r = _ from decode_event ms arg d ops w]
    split
    next h => exact decodeEvent_ok d h
    next h => exact decodeEvent_badEvent d h
  case operation =>
    subst hcls hpid
    rw [show decode ms r = _ from decode_op ms arg d ops]
    split
    next h => exact decodeOp_badOp d h
    next h =>
      by_cases hdefine : arg = 0x004
      · subst hdefine
        rw [if_pos rfl]
        cases hbank : takeRegs ops.length ops with
        | some bank => exact .inl ⟨bank, decodeOp_define d hbank⟩
        | none => exact .inr (decodeOp_badBank d hbank)
      rw [if_neg hdefine]
      by_cases hsnapshot : arg = 0x023
      · subst hsnapshot
        split
        next hmany => exact decodeOp_tooManySources d hmany.2
        next hfew => exact ⟨_, decodeOp_snapshot d (Nat.le_of_not_lt fun hlen => hfew ⟨rfl, hlen⟩)⟩
      · rw [if_neg fun hmany => hsnapshot hmany.1]
        exact decodeOp_ok d (not_not.mp h) hdefine hsnapshot

/-! ## The mapping of the UART16550 (R120) -/

theorem readUart16550_mapping {off : BitVec 12} (h0 : off ≠ 0x00) (h4 : off ≠ 0x04) :
    readUart16550 true off = readUart16550 false off := by
  unfold readUart16550
  split
  case h_1 h => exact absurd (BitVec.eq_of_toNat_eq h) h0
  case h_2 h => exact absurd (BitVec.eq_of_toNat_eq h) h4
  all_goals rfl

theorem writeUart16550_mapping {off : BitVec 12} (v : Word) (h0 : off ≠ 0x00) (h4 : off ≠ 0x04) :
    writeUart16550 true off v = writeUart16550 false off v := by
  unfold writeUart16550
  split
  case h_1 h => exact absurd (BitVec.eq_of_toNat_eq h) h0
  case h_2 h => exact absurd (BitVec.eq_of_toNat_eq h) h4
  all_goals rfl

theorem decodeRead_mapping {w : Window} {off : BitVec 12} (h : w = .uart16550 → off ≠ 0x00 ∧ off ≠ 0x04) :
    decodeRead true w off = decodeRead false w off := by
  cases w with
  | uart16550 =>
    obtain ⟨h0, h4⟩ := h rfl
    simp only [decodeRead, readRow, readUart16550_mapping h0 h4]
  | _ => rfl

theorem decodeWrite_mapping {w : Window} {off : BitVec 12} (v : Word) (h : w = .uart16550 → off ≠ 0x00 ∧ off ≠ 0x04) :
    decodeWrite true w off v = decodeWrite false w off v := by
  cases w with
  | uart16550 =>
    obtain ⟨h0, h4⟩ := h rfl
    simp only [decodeWrite, writeRow, writeUart16550_mapping v h0 h4]
  | _ => rfl

/-- Settles O6: only the bus accesses look at the mapping, and of those only the two offsets. -/
theorem mappingSelectsRegister : Obligations.MappingSelectsRegister := by
  refine ⟨fun r hr0 hr4 hw0 hw4 => ?_, fun v ops => ⟨decode_read false 0x00 v ops .uart16550, decode_read true 0x00 v ops .uart16550,
    decode_write false 0x00 v ops .uart16550, decode_write true 0x00 v ops .uart16550,
    decode_read false 0x04 v ops .uart16550, decode_read true 0x04 v ops .uart16550,
    decode_write false 0x04 v ops .uart16550, decode_write true 0x04 v ops .uart16550⟩⟩
  obtain ⟨key, d, ops⟩ := r
  obtain ⟨w, off, rfl⟩ | ⟨w, off, rfl⟩ | ⟨w, arg, rfl⟩ | ⟨arg, rfl⟩ | ⟨e, he⟩ := key_cases key
  · simp only [decode_read]
    rw [decodeRead_mapping]
    rintro rfl
    exact ⟨fun h => hr0 (h ▸ rfl), fun h => hr4 (h ▸ rfl)⟩
  · simp only [decode_write]
    rw [decodeWrite_mapping]
    rintro rfl
    exact ⟨fun h => hw0 (h ▸ rfl), fun h => hw4 (h ▸ rfl)⟩
  · simp only [decode_event]
  · simp only [decode_op]
  · simp only [he]

end Sys2Proof.Machine
end

section
/-! The round trip (R111 to R114, R117): every operand word and every offset that `encode` writes is read back by `decode`. -/

namespace Sys2Proof.Machine

/-! ## Operand words -/

section
variable {n : Nat}

theorem extractLsb'_setWidth_word (h : n ≤ 32) (x : BitVec n) : (x.setWidth 32).extractLsb' 0 n = x := by
  rw [BitVec.extractLsb'_setWidth_of_le (by omega), BitVec.extractLsb'_eq_self]

theorem getElem_boolWord_zero (b : Bool) : (boolWord b)[0] = b := by cases b <;> rfl

theorem windowOfBits_windowWord (w : Window) : windowOfBits ((windowWord w).extractLsb' 0 3) = w := by cases w <;> rfl

theorem serialOfBits_serialWord (c : Serial) : serialOfBits ((serialWord c).extractLsb' 0 2) = c := by cases c <;> rfl

theorem fifoOfBits_fifoWord (q : FifoId) : fifoOfBits ((fifoWord q).extractLsb' 0 3) = q := by
  obtain ⟨core, dir⟩ := q
  cases core <;> cases dir <;> rfl

theorem boolWord_eq_flagAt (b : Bool) : boolWord b = flagAt b 0 := (BitVec.shiftLeft_zero _).symm

theorem setWidth_eq_fieldAt (x : BitVec n) : x.setWidth 32 = fieldAt x 0 := (BitVec.shiftLeft_zero _).symm

theorem levelPayload_fields (i : BitVec 16) (level : Bool) :
    (levelPayload i level).extractLsb' 0 16 = i ∧ (levelPayload i level)[16] = level := by
  have h : levelPayload i level = fieldAt i 0 ||| flagAt level 16 := by rw [levelPayload, setWidth_eq_fieldAt]; rfl
  simp (disch := omega) only [h, ← BitVec.getLsbD_eq_getElem, BitVec.getLsbD_or, BitVec.extractLsb'_or, getLsbD_flagAt,
    getLsbD_fieldAt, extractLsb'_flagAt, extractLsb'_fieldAt]
  simp

theorem sourceOfWord_wordOfSource (x : Source) : sourceOfWord (wordOfSource x) = x := by
  have h : wordOfSource x = flagAt x.enable 0 ||| flagAt x.pending 1 ||| fieldAt x.prio 8 := by
    rw [wordOfSource, boolWord_eq_flagAt x.enable]; rfl
  simp (disch := omega) only [h, sourceOfWord, BitVec.getLsbD_or, BitVec.extractLsb'_or, getLsbD_flagAt, getLsbD_fieldAt,
    extractLsb'_flagAt, extractLsb'_fieldAt]
  simp

theorem sourceOfWord_comp_wordOfSource : sourceOfWord ∘ wordOfSource = id := funext sourceOfWord_wordOfSource

theorem modeOfBits_bitsOfMode (m : AccessMode) : modeOfBits (bitsOfMode m) = m := by cases m <;> rfl

theorem mappingOfBits_bitsOfMapping (m : MapWhen) : mappingOfBits (bitsOfMapping m) = some m := by cases m <;> rfl

theorem fieldOfWords_fieldHead (f : FieldDesc) : fieldOfWords (fieldHead f) f.reset = f := by
  have h : fieldHead f = fieldAt f.lo 0 ||| fieldAt f.width 8 ||| fieldAt (bitsOfMode f.mode) 16 |||
      flagAt (f.effect == .sideEffect) 18 ||| flagAt f.provider 19 ||| flagAt f.consumer 20 := by
    rw [fieldHead, setWidth_eq_fieldAt f.lo]; rfl
  simp (disch := omega) only [h, fieldOfWords, BitVec.getLsbD_or, BitVec.extractLsb'_or, getLsbD_flagAt, getLsbD_fieldAt,
    extractLsb'_flagAt, extractLsb'_fieldAt, extractLsb'_fieldAt_disjoint]
  obtain ⟨lo, width, mode, effect, provider, consumer, reset⟩ := f
  cases effect <;> simp [modeOfBits_bitsOfMode]

theorem regHead_fields (r : RegDesc) :
    (regHead r).getLsbD 0 = r.readable ∧ (regHead r).getLsbD 1 = r.writable ∧
      (regHead r).extractLsb' 2 2 = bitsOfMapping r.mapping ∧ (regHead r).extractLsb' 8 8 = BitVec.ofNat 8 r.fields.length := by
  have h : regHead r = flagAt r.readable 0 ||| flagAt r.writable 1 ||| fieldAt (bitsOfMapping r.mapping) 2 |||
      fieldAt (BitVec.ofNat 8 r.fields.length) 8 := by
    rw [regHead, boolWord_eq_flagAt r.readable]; rfl
  simp (disch := omega) only [h, BitVec.getLsbD_or, BitVec.extractLsb'_or, getLsbD_flagAt, getLsbD_fieldAt,
    extractLsb'_flagAt, extractLsb'_fieldAt, extractLsb'_fieldAt_disjoint]
  simp

theorem takeFields_fieldWords (ws : List Word) : ∀ fs : List FieldDesc, takeFields fs.length (fieldWords fs ++ ws) = some (fs, ws)
  | [] => rfl
  | f :: fs => by
    simp only [List.length_cons, fieldWords, List.cons_append, takeFields, takeFields_fieldWords ws fs, Option.map_some,
      fieldOfWords_fieldHead]

theorem takeRegs_bankWords : ∀ {fuel : Nat} {bank : List RegDesc}, bank.length ≤ fuel → bankWf bank = true →
    takeRegs fuel (bankWords bank) = some bank
  | _, [], _, _ => by rw [bankWords, takeRegs]
  | fuel + 1, r :: rs, hfuel, hwf => by
    obtain ⟨hr, hrs⟩ := Bool.and_eq_true_iff.mp hwf
    obtain ⟨hread, hwrite, hmap, hcount⟩ := regHead_fields r
    have hlen : (BitVec.ofNat 8 r.fields.length).toNat = r.fields.length := Nat.mod_eq_of_lt (of_decide_eq_true hr)
    have ih := takeRegs_bankWords (Nat.le_of_succ_le_succ hfuel) hrs
    simp only [bankWords, takeRegs, hread, hwrite, hmap, hcount, hlen, mappingOfBits_bitsOfMapping, takeFields_fieldWords, ih,
      Option.map_some]

/-- The words of a bank are fuel enough to read it. -/
theorem length_le_length_bankWords : ∀ bank : List RegDesc, bank.length ≤ (bankWords bank).length
  | [] => Nat.le_refl 0
  | r :: rs => by
    have ih := length_le_length_bankWords rs
    simp only [bankWords, List.length_cons, List.length_append]
    omega

end

/-! ## Indexed offsets (R117) -/

section
variable {off : BitVec 12}

/-- The compare blocks lie above the five fixed Registers of the TIMER window. -/
theorem le_toNat_of_inCmpBlock (h : inCmpBlock off = true) : 0x20 ≤ off.toNat := by
  simp only [inCmpBlock, slotOf, Bool.and_eq_true, decide_eq_true_eq, BitVec.extractLsb'_toNat,
    Nat.shiftRight_eq_div_pow] at h
  omega

/-- In a compare block the slot names the channel and the low bits the Register. -/
theorem readTimer_of_inCmpBlock (h : inCmpBlock off = true) :
    (off.extractLsb' 0 4 = 0x0 → readTimer off = some (.rdTimerCmpTarget (slotOf off - 2))) ∧
      (off.extractLsb' 0 4 = 0x4 → readTimer off = some (.rdTimerCmpCtrl (slotOf off - 2))) := by
  have hge := le_toNat_of_inCmpBlock h
  unfold readTimer
  split
  case h_1 | h_2 | h_3 | h_4 | h_5 => omega
  case h_6 =>
    rw [if_pos h]
    constructor <;> intro hlow <;> rw [hlow] <;> rfl

theorem writeTimer_of_inCmpBlock (h : inCmpBlock off = true) (v : Word) :
    (off.extractLsb' 0 4 = 0x0 → writeTimer off v = some (.wrTimerCmpTarget (slotOf off - 2) v)) ∧
      (off.extractLsb' 0 4 = 0x4 → writeTimer off v = some (.wrTimerCmpCtrl (slotOf off - 2) v)) := by
  have hge := le_toNat_of_inCmpBlock h
  unfold writeTimer
  split
  case h_1 | h_2 | h_3 | h_4 | h_5 => omega
  case h_6 =>
    rw [if_pos h]
    constructor <;> intro hlow <;> rw [hlow] <;> rfl

theorem cmpOffset_fields {k : BitVec 4} (r : BitVec 4) (hk : cmpIndexWf k = true) :
    inCmpBlock (cmpOffset k r) = true ∧ (cmpOffset k r).extractLsb' 0 4 = r ∧ slotOf (cmpOffset k r) - 2 = k := by
  revert k r
  decide

/-- The Registers of compare block `k` (R73, R74). -/
theorem readTimer_cmpOffset {k : BitVec 4} (hk : cmpIndexWf k = true) :
    readTimer (cmpOffset k 0x0) = some (.rdTimerCmpTarget k) ∧ readTimer (cmpOffset k 0x4) = some (.rdTimerCmpCtrl k) := by
  obtain ⟨hblock, hlow, hslot⟩ := cmpOffset_fields 0x0 hk
  obtain ⟨hblock', hlow', hslot'⟩ := cmpOffset_fields 0x4 hk
  rw [(readTimer_of_inCmpBlock hblock).1 hlow, (readTimer_of_inCmpBlock hblock').2 hlow', hslot, hslot']
  exact ⟨rfl, rfl⟩

theorem writeTimer_cmpOffset {k : BitVec 4} (hk : cmpIndexWf k = true) (v : Word) :
    writeTimer (cmpOffset k 0x0) v = some (.wrTimerCmpTarget k v) ∧
      writeTimer (cmpOffset k 0x4) v = some (.wrTimerCmpCtrl k v) := by
  obtain ⟨hblock, hlow, hslot⟩ := cmpOffset_fields 0x0 hk
  obtain ⟨hblock', hlow', hslot'⟩ := cmpOffset_fields 0x4 hk
  rw [(writeTimer_of_inCmpBlock hblock v).1 hlow, (writeTimer_of_inCmpBlock hblock' v).2 hlow', hslot, hslot']
  exact ⟨rfl, rfl⟩

theorem chOffset_fields (n : BitVec 3) (r : BitVec 5) :
    (chOffset n r == 0) = false ∧ ((chOffset n r).extractLsb' 8 4 == 1) = true ∧ (chOffset n r).extractLsb' 0 5 = r ∧
      (chOffset n r).extractLsb' 5 3 = n := by
  revert n r
  decide

/-- The Registers of channel block `n` (R77 to R80). -/
theorem readDma_chOffset (n : BitVec 3) :
    readDma (chOffset n 0x00) = some (.rdDmaChSrc n) ∧ readDma (chOffset n 0x04) = some (.rdDmaChDst n) ∧
      readDma (chOffset n 0x08) = some (.rdDmaChCount n) ∧ readDma (chOffset n 0x0C) = some (.rdDmaChCtrl n) := by
  simp only [readDma, chOffset_fields, Bool.false_eq_true, if_false, if_true]
  exact ⟨rfl, rfl, rfl, rfl⟩

theorem writeDma_chOffset (n : BitVec 3) (v : Word) :
    writeDma (chOffset n 0x00) v = some (.wrDmaChSrc n v) ∧ writeDma (chOffset n 0x04) v = some (.wrDmaChDst n v) ∧
      writeDma (chOffset n 0x08) v = some (.wrDmaChCount n v) ∧ writeDma (chOffset n 0x0C) v = some (.wrDmaChCtrl n v) := by
  simp only [writeDma, chOffset_fields, Bool.false_eq_true, if_false, if_true]
  exact ⟨rfl, rfl, rfl, rfl⟩

theorem prioOffset_fields (n : BitVec 5) :
    8 ≤ (prioOffset n).toNat ∧ inPrioTable (prioOffset n) = true ∧ (prioOffset n).extractLsb' 2 5 = n := by
  revert n
  decide

/-- The Registers of the priority table (R84). -/
theorem intcRow_prioOffset (n : BitVec 5) (v : Word) :
    readIntc (prioOffset n) = some (.rdIntcPriority n) ∧ writeIntc (prioOffset n) v = some (.wrIntcPriority n v) := by
  obtain ⟨hge, htable, hindex⟩ := prioOffset_fields n
  constructor
  all_goals
    simp only [readIntc, writeIntc]
    split
    case h_1 | h_2 => omega
    case h_3 => rw [if_pos htable, hindex]

end

/-! ## The round trip -/

section
variable (ms : Bool) (w : Window) (off arg : BitVec 12) (v d : Word) (ops : List Word)

theorem decode_rdRaw : decode ms (rdRaw w off) = .ok (decodeRead ms w off) := decode_read ms off 0 [] w

theorem decode_wrRaw : decode ms (wrRaw w off v) = .ok (decodeWrite ms w off v) := decode_write ms off v [] w

theorem decode_evRaw : decode ms (evRaw w arg d) = decodeEvent w arg d := decode_event ms arg d [] w

theorem decode_opRaw : decode ms (opRaw arg d ops) = decodeOp arg d ops := decode_op ms arg d ops

end

section
variable {ms : Bool} {w : Window} {off : BitVec 12} {v : Word} {i : Instr}

theorem decode_rdRaw_of_row (h : readRow ms w off = some i) : decode ms (rdRaw w off) = .ok i := by
  rw [decode_rdRaw, decodeRead, h, Option.getD_some]

theorem decode_wrRaw_of_row (h : writeRow ms w off v = some i) : decode ms (wrRaw w off v) = .ok i := by
  rw [decode_wrRaw, decodeWrite, h, Option.getD_some]

end

/-- Settles O1: one equation of the decoder per kind of stimulus, and every operand read back from the place it was put. -/
theorem decodeInvertsEncode : Obligations.DecodeInvertsEncode := by
  intro i ms hwf hactive
  cases i
  case rdTimerCmpTarget k => exact decode_rdRaw_of_row (readTimer_cmpOffset hwf).1
  case rdTimerCmpCtrl k => exact decode_rdRaw_of_row (readTimer_cmpOffset hwf).2
  case wrTimerCmpTarget k v => exact decode_wrRaw_of_row (writeTimer_cmpOffset hwf v).1
  case wrTimerCmpCtrl k v => exact decode_wrRaw_of_row (writeTimer_cmpOffset hwf v).2
  case rdDmaChSrc n | rdDmaChDst n | rdDmaChCount n | rdDmaChCtrl n =>
    obtain ⟨hsrc, hdst, hcount, hctrl⟩ := readDma_chOffset n
    exact decode_rdRaw_of_row (by assumption)
  case wrDmaChSrc n v | wrDmaChDst n v | wrDmaChCount n v | wrDmaChCtrl n v =>
    obtain ⟨hsrc, hdst, hcount, hctrl⟩ := writeDma_chOffset n v
    exact decode_wrRaw_of_row (by assumption)
  case rdIntcPriority n => exact decode_rdRaw_of_row (intcRow_prioOffset n 0).1
  case wrIntcPriority n v => exact decode_wrRaw_of_row (intcRow_prioOffset n v).2
  case rdUart16550Rbr | rdUart16550Dll | rdUart16550Ier | rdUart16550Dlh =>
    cases ms <;> cases hactive
    exact decode_rdRaw_of_row rfl
  case wrUart16550Thr | wrUart16550Dll | wrUart16550Ier | wrUart16550Dlh =>
    cases ms <;> cases hactive
    exact decode_wrRaw_of_row rfl
  case rdGpioData | rdGpioDir | rdGpioIe | rdGpioIs | rdGpioIt | rdGpioIp | rdGpioEdge | rdUartData | rdUartStatus |
      rdUartControl | rdUartBaud | rdUart16550Iir | rdUart16550Lcr | rdUart16550Lsr | rdSpiControl | rdSpiData |
      rdSpiStatus | rdI2cControl | rdI2cData | rdI2cStatus | rdI2cClockDiv | rdTimerControl | rdTimerValue | rdTimerReload |
      rdTimerPrescaler | rdTimerStatus | rdDmaControl | rdIntcEnable | rdIntcPending =>
    exact decode_rdRaw_of_row rfl
  case wrGpioData | wrGpioDir | wrGpioIe | wrGpioIs | wrGpioIt | wrGpioIp | wrGpioEdge | wrUartData | wrUartStatus |
      wrUartControl | wrUartBaud | wrUart16550Fcr | wrUart16550Lcr | wrUart16550Lsr | wrSpiControl | wrSpiData |
      wrSpiStatus | wrI2cControl | wrI2cData | wrI2cStatus | wrI2cClockDiv | wrTimerControl | wrTimerValue | wrTimerReload |
      wrTimerPrescaler | wrTimerStatus | wrDmaControl | wrIntcEnable | wrIntcPending =>
    exact decode_wrRaw_of_row rfl
  case evGpioReset | evUartReset | evUart16550Reset | evSpiReset | evI2cReset | evTimerTick | evTimerReset | evDmaReset |
      evIntcReset => exact decode_evRaw ..
  case evUartRxChar | evUart16550RxChar | evSpiRxChar | evI2cRxChar | evDmaReq =>
    simp [encode, decode_evRaw, decodeEvent, extractLsb'_setWidth_word]
  case evUart16550SetMap sel => simp [encode, decode_evRaw, decodeEvent, getElem_boolWord_zero]
  case evGpioPin | evIntcSrc => simp [encode, decode_evRaw, decodeEvent, levelPayload_fields]
  case opRbDefine bank =>
    exact (decode_opRaw ..).trans (decodeOp_define 0 (takeRegs_bankWords (length_le_length_bankWords bank) hwf))
  case opAggSnapshot ss =>
    have hlen : (ss.map wordOfSource).length ≤ 32 := by simpa [Instr.wf] using hwf
    refine (decode_opRaw ..).trans ((decodeOp_snapshot 0 hlen).trans ?_)
    rw [List.map_map, sourceOfWord_comp_wordOfSource, List.map_id]
  case opTchTick | opTchStart | opTchStop | opDmaRequest => exact decode_opRaw ..
  case opRbRead | opRbWrite | opRbReset | opLineSet | opAggOr | opAggPrio =>
    simp [encode, decode_opRaw, decodeOp, windowOfBits_windowWord, getElem_boolWord_zero, sourceOfWord_comp_wordOfSource]
  case opFifoPush | opFifoPop | opFifoCount | opFifoIsFull | opFifoIsEmpty | opFifoClear =>
    simp [encode, decode_opRaw, decodeOp, fifoOfBits_fifoWord, extractLsb'_setWidth_word]
  case opSerDataWrite | opSerDataRead | opSerRxChar | opSerDrain =>
    simp [encode, decode_opRaw, decodeOp, serialOfBits_serialWord, extractLsb'_setWidth_word]
  case opCmpEval | opDchConfigure | opDchSetEnabled | opDchTrigger =>
    simp [encode, decode_opRaw, decodeOp, getElem_boolWord_zero, extractLsb'_setWidth_word]

end Sys2Proof.Machine
end

section
/-! A read-modify-write (R122, R531): the flags a status word shows are the flags that writing it back clears. -/

namespace Sys2Proof.Machine

/-! ## Bus accesses by their row -/

theorem busRead_of_row {w : Window} {off : BitVec 12} {s : State} {i : Instr} (h : readRow s.u16.mapSel w off = some i) :
    busRead w off s = exec i s := by
  rw [busRead, decodeRead, h, Option.getD_some]

theorem busWrite_of_row {w : Window} {off : BitVec 12} {v : Word} {s : State} {i : Instr}
    (h : writeRow s.u16.mapSel w off v = some i) : busWrite w off v s = exec i s := by
  rw [busWrite, decodeWrite, h, Option.getD_some]

/-- After a pure read, a read-modify-write that means to change no bit writes back the word read; where that write ends in
the hook, the window is as the hook found it. -/
theorem rmw_writeBack {w : Window} {off : BitVec 12} {s t : State} {x : Word} (hread : busRead w off s = doneWord x s)
    (hwrite : busWrite w off x (ret (.word x) s) = hook w t) :
    ∃ u, rmw w off 0 0 s = .next u ∧ u.cfg = t.cfg ∧ windowSame w t u := by
  refine ⟨ret .nothing (updateInterrupts w t), ?_, updateInterrupts_cfg w t,
    windowSame_trans (windowSame_updateInterrupts w w t) (windowSame_ret w .nothing _)⟩
  have hword : (x &&& ~~~0) ||| 0 = x := by
    change (x &&& BitVec.allOnes 32) ||| 0#32 = x
    rw [BitVec.or_zero, BitVec.and_allOnes]
  rw [rmw, hread]
  change busWrite w off ((x &&& ~~~0) ||| 0) (ret (.word x) s) = _
  rw [hword, hwrite]
  rfl

/-! ## Writing back a flag -/

/-- Masking changes nothing that lies within the mask. -/
theorem Within.and_mask_eq {m x : Word} (h : Within m x) : x &&& m = x := by
  refine BitVec.eq_of_getLsbD_eq fun i _ => ?_
  rw [BitVec.getLsbD_and]
  cases hx : x.getLsbD i with
  | false => rfl
  | true => exact within_iff.mp h i hx

theorem clearOverrun_of_not_overrun {w : Serial} {s : State} (h : (portOf w s).overrun = false) : clearOverrun w s = s := by
  rw [clearOverrun, ← h]
  exact setPort_portOf w s

/-- Writing back the overrun flag as it stands clears it. -/
theorem clearOverrun_if_overrun (w : Serial) (s : State) :
    (if (portOf w s).overrun then clearOverrun w s else s) = clearOverrun w s := by
  split
  · rfl
  next h => exact (clearOverrun_of_not_overrun (Bool.not_eq_true _ ▸ h)).symm

theorem getLsbD_four_statusWord (cap : Nat) (p : Port) : (statusWord cap p).getLsbD 4 = p.overrun := by
  simp only [statusWord, BitVec.getLsbD_or, getLsbD_flagAt]
  simp

theorem cmpCtrlWord_fields (c : Cmp) :
    (flagAt c.en 0 ||| flagAt c.pending 1).getLsbD 0 = c.en ∧
      (flagAt c.en 0 ||| flagAt c.pending 1).getLsbD 1 = c.pending := by
  simp only [BitVec.getLsbD_or, getLsbD_flagAt]
  simp

theorem chanCtrlWord_fields (c : DmaChannel) :
    (flagAt c.enabled 0 ||| flagAt c.ie 2 ||| flagAt c.pending 3).getLsbD 0 = c.enabled ∧
      (flagAt c.enabled 0 ||| flagAt c.ie 2 ||| flagAt c.pending 3).getLsbD 1 = false ∧
      (flagAt c.enabled 0 ||| flagAt c.ie 2 ||| flagAt c.pending 3).getLsbD 2 = c.ie ∧
      (flagAt c.enabled 0 ||| flagAt c.ie 2 ||| flagAt c.pending 3).getLsbD 3 = c.pending := by
  simp only [BitVec.getLsbD_or, getLsbD_flagAt]
  simp

/-! ## The registers of R531 -/

theorem portOf_ret (w : Serial) (r : Result) (s : State) : portOf w (ret r s) = portOf w s := by cases w <;> rfl

/-- A status register that reads as R46 says and whose write clears the overrun flag under bit 4 (R301). -/
theorem rmw_status {w : Serial} {off : BitVec 12} {s : State}
    (hread : busRead (serialWindow w) off s = doneWord (statusWord s.cfg.fifoCap (portOf w s)) s)
    (hwrite : ∀ x t, busWrite (serialWindow w) off x t =
      hook (serialWindow w) (if x.getLsbD 4 then clearOverrun w t else t)) :
    ∃ t, rmw (serialWindow w) off 0 0 s = .next t ∧ windowSame (serialWindow w) (clearOverrun w s) t := by
  have hback (r : Result) : (if (statusWord s.cfg.fifoCap (portOf w s)).getLsbD 4 then clearOverrun w (ret r s) else ret r s) =
      clearOverrun w (ret r s) := by
    rw [getLsbD_four_statusWord, ← portOf_ret w r s]
    exact clearOverrun_if_overrun w (ret r s)
  obtain ⟨t, hrmw, _, hsame⟩ := rmw_writeBack hread ((hwrite _ _).trans (congrArg (hook _) (hback _)))
  refine ⟨t, hrmw, windowSame_trans ?_ hsame⟩
  cases w <;> rfl

section
variable (s : State)

theorem rmw_gpioIs (hext : s.cfg.gpioExt = true) (hwithin : Within (gpioMask s.cfg) s.gpio.is) :
    ∃ t, rmw .gpio 0x0C 0 0 s = .next t ∧ t.gpio = { s.gpio with is := 0 } := by
  have hread : busRead .gpio 0x0C s = doneWord s.gpio.is s :=
    (if_pos hext).trans (congrArg (doneWord · s) hwithin.and_mask_eq)
  have hclear : s.gpio.is &&& ~~~(s.gpio.is &&& gpioMask s.cfg) = 0 := by
    rw [hwithin.and_mask_eq, BitVec.and_not_self]
  have hwrite : busWrite .gpio 0x0C s.gpio.is (ret (.word s.gpio.is) s) =
      hook .gpio { ret (.word s.gpio.is) s with gpio := { s.gpio with is := 0 } } := by
    rw [busWrite_of_row (i := .wrGpioIs _) rfl, ← hclear]
    exact if_pos hext
  obtain ⟨t, hrmw, _, hgpio⟩ := rmw_writeBack hread hwrite
  exact ⟨t, hrmw, hgpio⟩

/-- Writing back the overflow flag as it stands clears it. -/
theorem clearOverflow_if_overflow :
    (if s.timer.ovfPending then { s with timer := { s.timer with ovfPending := false } } else s) =
      { s with timer := { s.timer with ovfPending := false } } := by
  split
  · rfl
  next h => rw [← (Bool.not_eq_true _).mp h]

theorem rmw_timerStatus : ∃ t, rmw .timer 0x10 0 0 s = .next t ∧ t.timer = { s.timer with ovfPending := false } := by
  have hwrite (x : Word) (hx : x.getLsbD 0 = s.timer.ovfPending) :
      busWrite .timer 0x10 x (ret (.word x) s) =
        hook .timer { ret (.word x) s with timer := { s.timer with ovfPending := false } } := by
    rw [busWrite_of_row (i := .wrTimerStatus _) rfl]
    simp only [exec, execWrTimerStatus, hx]
    exact congrArg (hook .timer) (clearOverflow_if_overflow (ret (.word x) s))
  obtain ⟨t, hrmw, _, htimer⟩ := rmw_writeBack rfl (hwrite (flagAt s.timer.ovfPending 0) ((getLsbD_flagAt ..).trans (by simp)))
  exact ⟨t, hrmw, htimer⟩

variable {s}

theorem cmpAt_congr {s t : State} (hcfg : t.cfg = s.cfg) (htimer : t.timer = s.timer) (k : Nat) : cmpAt t k = cmpAt s k := by
  simp only [cmpAt, hcfg, htimer]

theorem chanAt_congr {s t : State} (hcfg : t.cfg = s.cfg) (hdma : t.dma = s.dma) (n : Nat) : chanAt t n = chanAt s n := by
  simp only [chanAt, hcfg, hdma]

theorem rmw_cmpCtrl {k : BitVec 4} {c : Cmp} (hk : cmpIndexWf k = true) (hc : cmpAt s k.toNat = some c) :
    ∃ t, rmw .timer (cmpOffset k 4) 0 0 s = .next t ∧ cmpAt t k.toNat = some { c with pending := false } := by
  have hread : busRead .timer (cmpOffset k 4) s = doneWord (flagAt c.en 0 ||| flagAt c.pending 1) s := by
    rw [busRead_of_row (w := .timer) (readTimer_cmpOffset hk).2]
    simp only [exec, execRdTimerCmpCtrl, hc]
  obtain ⟨hen, hpend⟩ := cmpCtrlWord_fields c
  have hwrite (x : Word) (hen : x.getLsbD 0 = c.en) (hpend : x.getLsbD 1 = c.pending) :
      busWrite .timer (cmpOffset k 4) x (ret (.word x) s) =
        hook .timer (setCmp (ret (.word x) s) k.toNat { c with pending := false }) := by
    rw [busWrite_of_row (w := .timer) (writeTimer_cmpOffset hk x).2]
    simp only [exec, execWrTimerCmpCtrl, show cmpAt (ret (.word x) s) k.toNat = some c from hc, hen, hpend, Bool.and_not_self]
  obtain ⟨t, hrmw, hcfg, htimer⟩ := rmw_writeBack hread (hwrite _ hen hpend)
  exact ⟨t, hrmw, (cmpAt_congr hcfg htimer _).trans (cmpAt_setCmp_same (s := ret _ s) _ hc)⟩

theorem rmw_chanCtrl {n : BitVec 3} {c : DmaChannel} (hc : chanAt s n.toNat = some c) :
    ∃ t, rmw .dma (chOffset n 0xC) 0 0 s = .next t ∧ chanAt t n.toNat = some { c with pending := false } := by
  obtain ⟨_, _, _, hrow⟩ := readDma_chOffset n
  have hread : busRead .dma (chOffset n 0xC) s = doneWord (flagAt c.enabled 0 ||| flagAt c.ie 2 ||| flagAt c.pending 3) s := by
    rw [busRead_of_row (w := .dma) hrow]
    simp only [exec, execRdDmaChCtrl, hc]
  have hwrite (x : Word) (hen : x.getLsbD 0 = c.enabled) (hstart : x.getLsbD 1 = false) (hie : x.getLsbD 2 = c.ie)
      (hif : x.getLsbD 3 = c.pending) :
      busWrite .dma (chOffset n 0xC) x (ret (.word x) s) =
        hook .dma (setChan (ret (.word x) s) n.toNat { c with pending := false }) := by
    obtain ⟨_, _, _, hrow⟩ := writeDma_chOffset n x
    rw [busWrite_of_row (w := .dma) hrow]
    simp only [exec, execWrDmaChCtrl, show chanAt (ret (.word x) s) n.toNat = some c from hc, setChanCtrl, hen, hstart, hie,
      hif, Bool.and_not_self, Bool.false_eq_true, if_false, andThen_next]
  obtain ⟨hen, hstart, hie, hif⟩ := chanCtrlWord_fields c
  obtain ⟨t, hrmw, hcfg, hdma⟩ := rmw_writeBack hread (hwrite _ hen hstart hie hif)
  exact ⟨t, hrmw, (chanAt_congr hcfg hdma _).trans (chanAt_setChan_same (s := ret _ s) _ hc)⟩

end

/-- Settles O60: register by register, each write of the word just read. -/
theorem readModifyWriteClearsFlags : Obligations.ReadModifyWriteClearsFlags := by
  intro k n c d s hinv
  obtain ⟨hlegal, hwin, _⟩ := inv_iff.mp hinv
  have hgpio : GpioOk s.cfg s.gpio := hwin .gpio
  refine ⟨fun hext => rmw_gpioIs s hext hgpio.is, rmw_status (w := .uart) rfl fun _ _ => rfl,
    rmw_status (w := .spi) rfl fun _ _ => rfl, rmw_status (w := .i2c) rfl fun _ _ => rfl, rmw_timerStatus s,
    fun hc => rmw_cmpCtrl (decide_eq_true ?_) hc, rmw_chanCtrl⟩
  have hk := (cmpAt_eq_some.mp hc).1
  omega

end Sys2Proof.Machine
end

section
/-! A read of the bank (R143 to R145): the fields contribute what they held before the read, whatever reading them does. -/

namespace Sys2Proof.Machine

/-- The OR of the packed values of a list of fields (R116, R145). -/
def packedFields (fs : List FieldId) (s : State) : Word :=
  fs.foldl (fun acc f =>
    acc ||| packField (fieldValue f s) (fieldDesc s.cfg f).lo.toNat (fieldDesc s.cfg f).width.toNat) 0

/-! ## Fields whose read changes state (R142) -/

/-- The fields declared `SideEffect`. -/
def FieldId.readChanges : FieldId → Bool
  | .data _ | .rbr | .lsrOe => true
  | _ => false

theorem effect_eq_sideEffect_iff (c : Config) (f : FieldId) : (fieldDesc c f).effect = .sideEffect ↔ f.readChanges = true := by
  cases f <;> exact ⟨fun h => by cases h <;> rfl, fun h => by cases h <;> rfl⟩

/-- Reading `g` leaves what `f` contributes afterwards as it was: `g` changes nothing, or it is the overrun flag of `LSR`
and `f` a flag of the transmitter above it. -/
def FieldId.spares (g f : FieldId) : Bool := !g.readChanges || (g == .lsrOe && (f == .lsrThre || f == .lsrTemt))

theorem fieldValue_fieldEffect {g f : FieldId} (h : g.spares f = true) (s : State) :
    fieldValue f (fieldEffect g s) = fieldValue f s := by
  rw [FieldId.spares, Bool.or_eq_true, Bool.and_eq_true, Bool.or_eq_true] at h
  simp only [beq_iff_eq, Bool.not_eq_true'] at h
  obtain hpure | ⟨rfl, rfl | rfl⟩ := h
  · rw [fieldEffect_of_not_sideEffect (c := s.cfg)]
    rw [ne_eq, effect_eq_sideEffect_iff, hpure]
    exact Bool.false_ne_true
  · rfl
  · rfl

/-- In every Register of the block each field spares those above it. -/
theorem spares_of_mem_registersOf {c : Config} {w : Window} {r : Register} (hr : r ∈ registersOf c w) :
    r.fields.Pairwise (fun g f => g.spares f = true) := by
  have h : ∀ r ∈ registersOf c w, r.fields.Pairwise (fun g f => g.spares f = true) := by
    cases w <;> simp only [registersOf, regAt, statusFields, List.forall_mem_append, List.forall_mem_cons,
      List.forall_mem_flatMap, List.forall_mem_map, List.not_mem_nil, IsEmpty.forall_iff, implies_true, and_true]
    case gpio => cases c.gpioExt <;> decide
    case uart | uart16550 | spi | i2c => decide
    case timer => exact ⟨by decide, fun k _ => ⟨List.pairwise_singleton .., List.pairwise_pair.mpr rfl⟩⟩
    case dma =>
      refine ⟨by decide, fun n _ => ⟨List.pairwise_singleton .., List.pairwise_singleton .., List.pairwise_singleton .., ?_⟩⟩
      simp [FieldId.spares, FieldId.readChanges]
    case intc => exact ⟨by decide, fun n _ => List.pairwise_singleton ..⟩
  exact h r hr

/-! ## The read loop -/

theorem fieldEffect_cfg (f : FieldId) (s : State) : (fieldEffect f s).cfg = s.cfg := (advances_fieldEffect false f s).cfg

/-- The value of the read loop is that of the fields in the state it starts from. -/
theorem readSteps_value {s : State} : ∀ (fs : List FieldId) (p : Word × State), p.2.cfg = s.cfg →
    (∀ f ∈ fs, fieldValue f p.2 = fieldValue f s) → fs.Pairwise (fun g f => g.spares f = true) →
    (fs.foldl readStep p).1 = fs.foldl (fun acc f =>
      acc ||| packField (fieldValue f s) (fieldDesc s.cfg f).lo.toNat (fieldDesc s.cfg f).width.toNat) p.1
  | [], _, _, _, _ => rfl
  | f :: fs, p, hcfg, hval, hpair => by
    obtain ⟨hf, hfs⟩ := List.forall_mem_cons.mp hval
    obtain ⟨hspares, hrest⟩ := List.pairwise_cons.mp hpair
    have ih := readSteps_value (s := s) fs (readStep p f) ((fieldEffect_cfg f p.2).trans hcfg)
      (fun g hg => (fieldValue_fieldEffect (hspares g hg) p.2).trans (hfs g hg)) hrest
    rw [List.foldl_cons, ih, List.foldl_cons, readStep, hf, hcfg]

/-- A matched read, once (R143, R151). -/
theorem rbRead_of_lookup {w : Window} {off : Nat} {s : State} {r : Register}
    (h : lookup s.cfg s.u16.mapSel w true off = some r) :
    rbRead w off s = doneWord (packedFields r.fields s)
      (if hasReadHook s.cfg r then updateInterrupts w (r.fields.foldl readStep (0, s)).2
        else (r.fields.foldl readStep (0, s)).2) := by
  have hvalue : (r.fields.foldl readStep (0, s)).1 = packedFields r.fields s :=
    readSteps_value r.fields (0, s) rfl (fun _ _ => rfl) (spares_of_mem_registersOf (mem_registersOf_of_lookup h))
  simp only [rbRead, h, hvalue]

theorem hasReadHook_iff {c : Config} {r : Register} :
    hasReadHook c r = true ↔ ∃ f ∈ r.fields, (fieldDesc c f).effect = .sideEffect := by
  simp [hasReadHook]

/-- A matched read of a Register without a read effect changes nothing (R95). -/
theorem rbRead_pure {w : Window} {off : Nat} {s : State} {r : Register}
    (h : lookup s.cfg s.u16.mapSel w true off = some r) (hpure : ∀ f ∈ r.fields, (fieldDesc s.cfg f).effect ≠ .sideEffect) :
    rbRead w off s = doneWord (packedFields r.fields s) s := by
  have hhook : ¬hasReadHook s.cfg r = true := fun hhook =>
    have ⟨f, hf, heffect⟩ := hasReadHook_iff.mp hhook
    hpure f hf heffect
  rw [rbRead_of_lookup h, if_neg hhook, readSteps_pure r.fields (0, s) hpure]

/-- Settles O10: the value by `rbRead_of_lookup`, the frame by `staysIn_rbRead`. -/
theorem bankReadPacksFields : Obligations.BankReadPacksFields := by
  intro w off s r h
  have hread : exec (.opRbRead w off) s = _ := rbRead_of_lookup h
  obtain ⟨honly, hmem⟩ := staysIn_rbRead false w off.toNat s _ hread
  refine ⟨_, hread, rfl, fun hpure => ?pure, fun heffect => ?hook, honly, fun a => by rw [hmem rfl]⟩
  case pure =>
    have hpure' : ∀ f ∈ r.fields, (fieldDesc s.cfg f).effect ≠ .sideEffect := fun f hf => by simp [hpure f hf]
    exact Host.Outcome.next.inj ((rbRead_of_lookup h).symm.trans (rbRead_pure h hpure'))
  case hook =>
    rw [if_pos (hasReadHook_iff.mpr heffect)]
    exact Recomputed.lineOf_eq (moves := false) ⟨_, _, advances_readSteps false r.fields (0, s), rfl⟩

end Sys2Proof.Machine
end

section
/-! The registers that hold what was written (R154): an offset names one Register, the bus and the bank treat it alike, and
every field of it shows the bits it was given. -/

namespace Sys2Proof.Machine

/-! ## An offset names at most one Register (R115, R153 (b)) -/

/-- Two Registers that some access could reach both, were they at one offset. -/
def Register.meets (a b : Register) : Bool :=
  ((a.readable && b.readable) || (a.writable && b.writable)) &&
    (a.mapping == .always || b.mapping == .always || a.mapping == b.mapping)

theorem sameSpace_regDescOf (c : Config) (a b : Register) : sameSpace (regDescOf c a) (regDescOf c b) = a.meets b := rfl

theorem offsets_distinct (c : Config) (w : Window) :
    (registersOf c w).Pairwise (fun a b => a.meets b = true → a.off ≠ b.off) := by
  have of_rising {l : List Register} (h : l.Pairwise (·.off < ·.off)) :
      l.Pairwise (fun a b => a.meets b = true → a.off ≠ b.off) := h.imp fun hlt _ => hlt.ne
  cases w with
  | gpio =>
    rw [registersOf]
    cases c.gpioExt <;> decide
  | uart | uart16550 | spi | i2c =>
    rw [registersOf]
    decide
  | timer =>
    refine of_rising (List.pairwise_append.mpr ⟨by decide, List.pairwise_flatMap.mpr ⟨fun k _ => ?_, ?_⟩, ?_⟩)
    · simp [regAt, cmpOff]
    · refine List.pairwise_lt_range.imp fun hlt => ?_
      simp [regAt, cmpOff]
      omega
    · refine fun a ha b hb => Nat.lt_of_lt_of_le (m := 0x20) ?_ ?_
      · revert a
        decide
      · obtain ⟨k, _, hb⟩ := List.mem_flatMap.mp hb
        simp only [List.mem_cons, List.not_mem_nil, or_false] at hb
        obtain rfl | rfl := hb <;> simp only [regAt, cmpOff] <;> omega
  | dma =>
    refine of_rising (List.pairwise_cons.mpr ⟨?_, List.pairwise_flatMap.mpr ⟨fun k _ => ?_, ?_⟩⟩)
    · intro b hb
      obtain ⟨n, _, hb⟩ := List.mem_flatMap.mp hb
      simp only [List.mem_cons, List.not_mem_nil, or_false] at hb
      obtain rfl | rfl | rfl | rfl := hb <;> simp [regAt, chOff]
    · simp [regAt, chOff]
    · refine List.pairwise_lt_range.imp fun hlt => ?_
      simp [regAt, chOff]
      omega
  | intc =>
    refine of_rising (List.pairwise_append.mpr ⟨by decide, List.pairwise_map.mpr ?_, ?_⟩)
    · refine List.pairwise_lt_range.imp fun hlt => ?_
      simpa [regAt, prioOff] using hlt
    · simp [regAt, prioOff]
      omega

/-- Does an access of one direction under a mapping reach the Register? -/
def Register.answers (r : Register) (sel isRead : Bool) : Bool :=
  r.mapping.active sel && (if isRead then r.readable else r.writable)

theorem mapping_of_active {m n : MapWhen} {sel : Bool} (hm : m.active sel = true) (hn : n.active sel = true) :
    (m == .always || n == .always || m == n) = true := by
  cases m <;> cases n <;> cases sel <;> cases hm <;> cases hn <;> rfl

theorem meets_of_answers {a b : Register} {sel isRead : Bool} (ha : a.answers sel isRead = true)
    (hb : b.answers sel isRead = true) : a.meets b = true := by
  obtain ⟨hma, hda⟩ := Bool.and_eq_true_iff.mp ha
  obtain ⟨hmb, hdb⟩ := Bool.and_eq_true_iff.mp hb
  refine Bool.and_eq_true_iff.mpr ⟨?_, mapping_of_active hma hmb⟩
  cases isRead <;> simp_all

theorem meets_comm (a b : Register) : a.meets b = b.meets a := by
  have hmap : (a.mapping == .always || b.mapping == .always || a.mapping == b.mapping) =
      (b.mapping == .always || a.mapping == .always || b.mapping == a.mapping) := by
    cases a.mapping <;> cases b.mapping <;> rfl
  rw [Register.meets, Register.meets, hmap, Bool.and_comm a.readable, Bool.and_comm a.writable]

/-- No two Registers answer one access (R115). -/
theorem eq_of_answers {c : Config} {w : Window} {a b : Register} {sel isRead : Bool} (ha : a ∈ registersOf c w)
    (hb : b ∈ registersOf c w) (hoff : a.off = b.off) (hda : a.answers sel isRead = true) (hdb : b.answers sel isRead = true) :
    a = b := by
  by_contra hne
  have hsymm : Std.Symm fun a b : Register => a.meets b = true → a.off ≠ b.off := 
    ⟨fun a b h hmeets => (h (meets_comm a b ▸ hmeets)).symm⟩
  exact (offsets_distinct c w).forall ha hb hne (meets_of_answers hda hdb) hoff

/-- What `lookup` finds (R115, R143). -/
theorem lookup_eq_some_iff {c : Config} {sel isRead : Bool} {w : Window} {off : Nat} {r : Register} :
    lookup c sel w isRead off = some r ↔
      ¬(0x1000 ≤ off ∨ off % 4 ≠ 0 ∨ windowSize c w ≤ off) ∧ r ∈ registersOf c w ∧ r.off = off ∧ r.answers sel isRead = true := by
  simp only [lookup, Bool.and_assoc]
  split
  next hout => exact ⟨nofun, fun h => absurd hout h.1⟩
  next hin =>
    constructor
    · intro h
      have hsat := List.find?_some h
      rw [Bool.and_eq_true, beq_iff_eq] at hsat
      exact ⟨hin, List.mem_of_find?_eq_some h, hsat⟩
    · rintro ⟨_, hmem, hoff, hans⟩
      obtain ⟨x, hx⟩ := Option.isSome_iff_exists.mp (List.find?_isSome (p := fun x => x.off == off && x.answers sel isRead) |>.mpr
        ⟨r, hmem, by simp [hoff, hans]⟩)
      have hsat := List.find?_some hx
      rw [Bool.and_eq_true, beq_iff_eq] at hsat
      obtain ⟨hxoff, hxans⟩ := hsat
      exact hx.trans (congrArg some (eq_of_answers (List.mem_of_find?_eq_some hx) hmem (hxoff.trans hoff.symm) hxans hans))

/-- The Register an access reaches is the one known to stand there. -/
theorem eq_of_lookup {c : Config} {sel isRead : Bool} {w : Window} {off : Nat} {r r' : Register}
    (h : lookup c sel w isRead off = some r) (hmem : r' ∈ registersOf c w) (hoff : r'.off = off)
    (hans : r'.answers sel isRead = true) : r = r' := by
  obtain ⟨_, hr, hroff, hrans⟩ := lookup_eq_some_iff.mp h
  exact eq_of_answers hr hmem (hroff.trans hoff.symm) hrans hans

/-- A readable Register that a write reaches is reached by a read. -/
theorem lookup_read_of_write {c : Config} {sel : Bool} {w : Window} {off : Nat} {r : Register}
    (h : lookup c sel w false off = some r) (hread : r.readable = true) : lookup c sel w true off = some r := by
  obtain ⟨hin, hmem, hoff, hans⟩ := lookup_eq_some_iff.mp h
  exact lookup_eq_some_iff.mpr ⟨hin, hmem, hoff, Bool.and_eq_true_iff.mpr ⟨(Bool.and_eq_true_iff.mp hans).1, hread⟩⟩

/-! ## The bits of a field (R116) -/

theorem getLsbD_extractField (v : Word) (lo n i : Nat) :
    (extractField v lo n).getLsbD i = (decide (i < n) && v.getLsbD (lo + i)) := by
  rw [extractField, BitVec.getLsbD_and, BitVec.getLsbD_ushiftRight, getLsbD_maskWord]
  by_cases hi : i < 32
  · simp [hi, Bool.and_comm]
  · simp [hi, BitVec.getLsbD_of_ge v (lo + i) (by omega)]

theorem setWidth_extractField (v : Word) (lo n : Nat) :
    (extractField v lo n).setWidth n = v.extractLsb' lo n := by
  refine BitVec.eq_of_getLsbD_eq fun i hi => ?_
  rw [BitVec.getLsbD_setWidth, getLsbD_extractField, BitVec.getLsbD_extractLsb']
  simp [hi]

theorem getLsbD_extractField_zero (v : Word) (lo : Nat) : (extractField v lo 1).getLsbD 0 = v.getLsbD lo := by
  rw [getLsbD_extractField]
  simp

theorem extractField_word (v : Word) : extractField v 0 32 = v := by
  refine BitVec.eq_of_getLsbD_eq fun i hi => ?_
  rw [getLsbD_extractField]
  simp [hi]

/-- A field of the width of a parameter (R36, R81). -/
theorem extractField_param {n : Nat} (hn : n ≤ 32) (v : Word) : extractField v 0 (BitVec.ofNat 8 n).toNat = v &&& maskWord n := by
  rw [BitVec.toNat_ofNat, Nat.mod_eq_of_lt (by omega), extractField, BitVec.ushiftRight_zero]

/-- What a one-bit cell shows of what it was given. -/
theorem boolWord_extractField (v : Word) (lo : Nat) : boolWord ((extractField v lo 1).getLsbD 0) = extractField v lo 1 := by
  rw [boolWord_eq_flagAt]
  refine BitVec.eq_of_getLsbD_eq fun i hi => ?_
  rw [getLsbD_flagAt, getLsbD_extractField_zero, getLsbD_extractField]
  by_cases h : i = 0 <;> simp [h, hi]

/-- What a cell of `n` bits shows of what it was given. -/
theorem setWidth_setWidth_extractField (v : Word) (lo n : Nat) :
    ((extractField v lo n).setWidth n).setWidth 32 = extractField v lo n := by
  refine BitVec.eq_of_getLsbD_eq fun i hi => ?_
  rw [BitVec.getLsbD_setWidth, BitVec.getLsbD_setWidth, getLsbD_extractField]
  by_cases h : i < n <;> simp [h, hi]

theorem getLsbD_packField (x : Word) (lo n i : Nat) :
    (packField x lo n).getLsbD i = (decide (i < 32) && decide (lo ≤ i) && (decide (i - lo < n) && x.getLsbD (i - lo))) := by
  rw [packField, BitVec.getLsbD_shiftLeft, BitVec.getLsbD_and, getLsbD_maskWord]
  by_cases hi : i < 32
  · have hsub : i - lo < 32 := by omega
    by_cases hlo : lo ≤ i <;> simp [hi, hsub, hlo, Nat.not_lt.mpr, Nat.lt_of_not_le, Bool.and_comm]
  · simp [hi]

theorem packField_setWidth {n : Nat} (x : BitVec n) (lo : Nat) : packField (x.setWidth 32) lo n = fieldAt x lo := by
  refine BitVec.eq_of_getLsbD_eq fun i hi => ?_
  rw [getLsbD_packField, getLsbD_fieldAt, BitVec.getLsbD_setWidth]
  by_cases h : i - lo < n
  · simp [h, show i - lo < 32 by omega]
  · simp [h, BitVec.getLsbD_of_ge x (i - lo) (Nat.le_of_not_lt h)]

theorem packField_boolWord (b : Bool) (lo : Nat) : packField (boolWord b) lo 1 = flagAt b lo := by
  have h : boolWord b &&& maskWord 1 = boolWord b := by cases b <;> rfl
  rw [packField, h, flagAt]

theorem packField_word (x : Word) : packField x 0 32 = x := (packField_setWidth x 0).trans (by simp [fieldAt])

theorem packField_param {n : Nat} (hn : n ≤ 32) (x : Word) : packField x 0 (BitVec.ofNat 8 n).toNat = x &&& maskWord n := by
  rw [BitVec.toNat_ofNat, Nat.mod_eq_of_lt (by omega), packField, BitVec.shiftLeft_zero]

/-- A field's part of a word, taken out and put back. -/
theorem packField_extractField (v : Word) (lo n : Nat) : packField (extractField v lo n) lo n = v &&& (maskWord n <<< lo) := by
  refine BitVec.eq_of_getLsbD_eq fun i hi => ?_
  rw [getLsbD_packField, getLsbD_extractField, BitVec.getLsbD_and, BitVec.getLsbD_shiftLeft, getLsbD_maskWord]
  by_cases hlo : lo ≤ i
  · simp [hi, hlo, show i - lo < 32 by omega, Nat.not_lt.mpr hlo, Bool.and_comm]
  · simp [hlo, Nat.lt_of_not_le hlo]

/-! ## The implemented bits of a Register (R146) -/

/-- The sub-value a write gives a field (R116). -/
abbrev fieldSub (c : Config) (f : FieldId) (v : Word) : Word := extractField v (fieldDesc c f).lo.toNat (fieldDesc c f).width.toNat

theorem and_foldl_fieldBits (c : Config) (v : Word) : ∀ (fs : List FieldId) (m : Word),
    v &&& (fs.map (fieldDesc c)).foldl (fun m f => m ||| fieldBits f) m =
      fs.foldl (fun acc f => acc ||| packField (fieldSub c f v) (fieldDesc c f).lo.toNat (fieldDesc c f).width.toNat) (v &&& m)
  | [], _ => rfl
  | f :: fs, m => by
    rw [List.map_cons, List.foldl_cons, List.foldl_cons, and_foldl_fieldBits c v fs, packField_extractField, BitVec.and_or_distrib_left]
    rfl

/-- The implemented bits of a word are the sub-values of the fields, put back in their places. -/
theorem and_implementedBits (c : Config) (r : Register) (v : Word) :
    v &&& implementedBits c r =
      r.fields.foldl (fun acc f =>
        acc ||| packField (fieldSub c f v) (fieldDesc c f).lo.toNat (fieldDesc c f).width.toNat) 0 := by
  rw [implementedBits, reservedBits, BitVec.not_not]
  exact (and_foldl_fieldBits c v r.fields 0).trans (by rw [show v &&& (0 : Word) = 0 from BitVec.and_zero])

/-- A Register whose fields show what a write gave them reads as the implemented bits of the word written. -/
theorem packedFields_of_shown {s t : State} {r : Register} {v : Word} (hcfg : t.cfg = s.cfg)
    (h : ∀ f ∈ r.fields, fieldValue f t = fieldSub s.cfg f v) : packedFields r.fields t = v &&& implementedBits s.cfg r := by
  rw [and_implementedBits, packedFields]
  refine List.foldl_ext _ _ _ fun acc f hf => ?_
  rw [h f hf, hcfg]

end Sys2Proof.Machine
end

section
/-! The registers of R154: what their cells show, and that the bus and the bank write them alike. -/

namespace Sys2Proof.Machine

/-! ## Cells (R141, R154) -/

/-- The fields of the registers that R154 lists: each shows what it was last given. -/
def FieldId.isCell : FieldId → Bool
  | .gpioDir | .gpioIe | .gpioIt | .gpioIp | .gpioEdge
  | .uartTxEn | .uartRxEn | .uartTxIe | .uartRxIe | .uartOvrIe | .uartRxTrig | .uartTxTrig | .uartDiv
  | .dll | .dlh | .erbfi | .etbei | .elsi | .lcr
  | .spiEn | .spiLoopback | .spiMode | .spiTxIe | .spiRxIe | .spiOvrIe | .spiRxTrig | .spiTxTrig
  | .i2cEn | .i2cStart | .i2cStop | .i2cAck | .i2cTxIe | .i2cRxIe | .i2cOvrIe | .i2cSlaveAddr | .i2cRxTrig | .i2cTxTrig
  | .i2cDiv | .timerLimit | .timerPrescaler | .cmpTarget _ | .dmaEn | .chSrc _ | .chDst _ | .chCount _
  | .intcEnable | .intcPrio _ => true
  | _ => false

/-- Does the block have the channel, compare channel or source of an arrayed field (R115 (3))? -/
def FieldId.inRange (c : Config) : FieldId → Prop
  | .cmpTarget k => k < c.nCmp
  | .chSrc n | .chDst n | .chCount n => n < c.nDmaCh
  | .intcPrio n => n < c.nIrqSrc
  | _ => True

/-- Reading a cell changes nothing. -/
theorem effect_of_isCell {c : Config} {f : FieldId} (h : f.isCell = true) : (fieldDesc c f).effect ≠ .sideEffect := by
  cases f with
  | data | rbr | lsrOe => cases h
  | _ => nofun

theorem cmpAt_modifyCmp {s : State} {k : Nat} {c : Cmp} (g : Cmp → Cmp) (hc : cmpAt s k = some c) :
    cmpAt (modifyCmp k g s) k = some (g c) := by
  simp only [modifyCmp, hc]
  exact cmpAt_setCmp_same _ hc

theorem chanAt_modifyChan {s : State} {n : Nat} {c : DmaChannel} (g : DmaChannel → DmaChannel) (hc : chanAt s n = some c) :
    chanAt (modifyChan n g s) n = some (g c) := by
  simp only [modifyChan, hc]
  exact chanAt_setChan_same _ hc

/-- A cell shows what a write gave it, but for a divisor given 0 (R149, R357, R406, R428). -/
theorem fieldValue_writeStep {f : FieldId} {s : State} {v : Word} (hcell : f.isCell = true) (hlen : LengthsOk s)
    (hrange : f.inRange s.cfg) (hne : fieldSub s.cfg f v ≠ 0) : fieldValue f (writeStep v s f) = fieldSub s.cfg f v := by
  cases f with
  | gpioDir | gpioIe | gpioIt | gpioIp | gpioEdge | timerLimit | intcEnable => rfl
  | uartTxEn | uartRxEn | uartTxIe | uartRxIe | uartOvrIe | erbfi | etbei | elsi | spiEn | spiLoopback | spiTxIe | spiRxIe
  | spiOvrIe | i2cEn | i2cStart | i2cStop | i2cAck | i2cTxIe | i2cRxIe | i2cOvrIe | dmaEn =>
    exact boolWord_extractField v _
  | uartRxTrig | uartTxTrig | dll | dlh | lcr | spiMode | spiRxTrig | spiTxTrig | i2cSlaveAddr | i2cRxTrig | i2cTxTrig =>
    exact setWidth_setWidth_extractField v _ _
  | uartDiv => exact (congrArg (fieldValue .uartDiv) (if_neg hne)).trans (setWidth_setWidth_extractField v 0 16)
  | i2cDiv => exact (congrArg (fieldValue .i2cDiv) (if_neg hne)).trans (setWidth_setWidth_extractField v 0 16)
  | timerPrescaler => exact congrArg (fieldValue .timerPrescaler) (if_neg hne)
  | cmpTarget k =>
    obtain ⟨c, hc⟩ := cmpAt_isSome hlen hrange
    change (cmpAt (modifyCmp k _ s) k).elim 0 _ = _
    rw [cmpAt_modifyCmp _ hc]
    rfl
  | chSrc n | chDst n | chCount n =>
    obtain ⟨c, hc⟩ := chanAt_isSome hlen hrange
    change (chanAt (modifyChan n _ s) n).elim 0 _ = _
    rw [chanAt_modifyChan _ hc]
    rfl
  | intcPrio n =>
    have hn : n < s.intc.prio.length := lt_of_lt_of_eq hrange hlen.2.2.symm
    have hp : prioAt (writeStep v s (.intcPrio n)) n = some ((fieldSub s.cfg (.intcPrio n) v).setWidth 8) :=
      prioAt_eq_some.mpr ⟨hrange, List.getElem?_set_self hn⟩
    exact (congrArg (fun q : Option Byte => q.elim 0 fun p => p.setWidth 32) hp).trans (setWidth_setWidth_extractField v 0 8)
  | _ => cases hcell

/-! ## What a write does after its fields leaves the cells as they are -/

/-- From `s` to `t` the parameters, the mapping and what every cell shows are the same. -/
structure KeepsCells (s t : State) : Prop where
  cfg    : t.cfg = s.cfg
  mapSel : t.u16.mapSel = s.u16.mapSel
  value  : ∀ f : FieldId, f.isCell = true → fieldValue f t = fieldValue f s

theorem KeepsCells.refl (s : State) : KeepsCells s s := ⟨rfl, rfl, fun _ _ => rfl⟩

theorem KeepsCells.trans {s t u : State} (h : KeepsCells s t) (h' : KeepsCells t u) : KeepsCells s u :=
  ⟨h'.cfg.trans h.cfg, h'.mapSel.trans h.mapSel, fun f hf => (h'.value f hf).trans (h.value f hf)⟩

/-- No cell lies in a queue, an overrun flag or the trace. -/
theorem PortStep.keepsCells {x : Serial} {s t : State} (h : PortStep x s t) : KeepsCells s t := by
  obtain ⟨p, outs, rfl⟩ := h
  refine ⟨by cases x <;> rfl, by cases x <;> rfl, fun f hf => ?_⟩
  cases f with
  | data | txEmpty | txFull | rxEmpty | rxFull | overrun | rbr | iirNopend | iirId | lsrDr | lsrOe | lsrThre | lsrTemt => cases hf
  | _ => cases x <;> rfl

/-- Nor in a line or the result. -/
theorem keepsCells_of_windowSame {s t : State} (hcfg : t.cfg = s.cfg) (h : ∀ w, windowSame w s t) : KeepsCells s t := by
  refine ⟨hcfg, congrArg Uart16550.mapSel (h .uart16550), fun f hf => ?_⟩
  have hgpio : t.gpio = s.gpio := h .gpio
  have huart : t.uart = s.uart := h .uart
  have hu16 : t.u16 = s.u16 := h .uart16550
  have hspi : t.spi = s.spi := h .spi
  have hi2c : t.i2c = s.i2c := h .i2c
  have htimer : t.timer = s.timer := h .timer
  have hdma : t.dma = s.dma := h .dma
  have hintc : t.intc = s.intc := h .intc
  cases s; cases t
  dsimp only at *
  subst hcfg hgpio huart hu16 hspi hi2c htimer hdma hintc
  cases f with
  | data | rbr => cases hf
  | _ => rfl

theorem keepsCells_hook (w : Window) (s : State) : KeepsCells s (ret .nothing (updateInterrupts w s)) :=
  keepsCells_of_windowSame (updateInterrupts_cfg w s) fun x =>
    windowSame_trans (windowSame_updateInterrupts x w s) (windowSame_ret x .nothing _)

/-- The action a control register adds to its hook may drain its transmitter, and no other storage register has one (R303). -/
theorem keepsCells_drainIfOn (x : Serial) (s : State) : KeepsCells s (drainIfOn x s) := (drainIfOn_portStep x s).keepsCells

/-- A write of a cell leaves the mapping as it is (R120). -/
theorem mapSel_writeStep {f : FieldId} (hf : f.isCell = true) (v : Word) (s : State) :
    (writeStep v s f).u16.mapSel = s.u16.mapSel := by
  have hother (hw : f.window ≠ .uart16550) : (writeStep v s f).u16.mapSel = s.u16.mapSel :=
    have ⟨_, _, hsame⟩ := (confined_applyField false f (fieldSub s.cfg f v) s).1
    congrArg Uart16550.mapSel (hsame .uart16550 hw.symm).1
  cases f with
  | dll | dlh | erbfi | etbei | elsi | lcr => rfl
  | data | txEmpty | txFull | rxEmpty | rxFull | overrun | rbr | thr | iirNopend | iirId | iirFifoEn | fcrFifoEn | fcrRxClr
  | fcrTxClr | fcrRxTrig | lsrDr | lsrOe | lsrThre | lsrTemt => cases hf
  | _ => exact hother nofun

theorem mapSel_writeSteps (v : Word) : ∀ (fs : List FieldId) (s : State), (∀ f ∈ fs, f.isCell = true) →
    (fs.foldl (writeStep v) s).u16.mapSel = s.u16.mapSel
  | [], _, _ => rfl
  | f :: fs, s, h => by
    obtain ⟨hf, hfs⟩ := List.forall_mem_cons.mp h
    exact (mapSel_writeSteps v fs _ hfs).trans (mapSel_writeStep hf v s)

/-! ## A storage register -/

/-- What makes a Register read back what was written: its fields are cells, each shows its part of the word after a write, the
hook leaves them, and the bus reads and writes it as the bank does (R140). -/
structure StorageRegister (w : Window) (off : BitVec 12) (r : Register) (s : State) : Prop where
  readable  : r.readable = true
  cells     : ∀ f ∈ r.fields, f.isCell = true
  shown     : ∀ v, v &&& implementedBits s.cfg r ≠ 0 →
    ∀ f ∈ r.fields, fieldValue f (r.fields.foldl (writeStep v) s) = fieldSub s.cfg f v
  hookKeeps : ∀ v t, ∃ u, hookAction w off.toNat v t = .next u ∧ KeepsCells t u
  busRead   : busRead w off s = doneWord (packedFields r.fields s) s
  busWrite  : ∀ v, busWrite w off v s = andThen (hookAction w off.toNat v (r.fields.foldl (writeStep v) s)) (hook w)

section
variable {w : Window} {off : BitVec 12} {o : Nat} {m : MapWhen} {f : FieldId} {s : State}

/-- A Register with one field, whose write ends in the plain hook. -/
theorem storageRegister_single (hcell : f.isCell = true) (hlen : LengthsOk s) (hrange : f.inRange s.cfg)
    (hhook : ∀ v t, hookAction w off.toNat v t = .next t)
    (hread : busRead w off s =
      doneWord (packField (fieldValue f s) (fieldDesc s.cfg f).lo.toNat (fieldDesc s.cfg f).width.toNat) s)
    (hwrite : ∀ v, busWrite w off v s = hook w (writeStep v s f)) : StorageRegister w off ⟨o, true, true, m, [f]⟩ s where
  readable := rfl
  cells := List.forall_mem_singleton.mpr hcell
  shown v hv := by
    refine List.forall_mem_singleton.mpr (fieldValue_writeStep hcell hlen hrange fun h0 => hv ?_)
    rw [and_implementedBits]
    simp only [List.foldl_cons, List.foldl_nil, h0]
    simp [packField]
  hookKeeps v t := ⟨t, hhook v t, .refl t⟩
  busRead := by
    rw [hread, packedFields, List.foldl_cons, List.foldl_nil, show (0 : Word) ||| _ = _ from BitVec.zero_or]
  busWrite v := by rw [hwrite, hhook, andThen_next]; rfl

/-- One field as wide as a parameter, from bit 0 (R36, R81). -/
theorem storageRegister_param {n : Nat} (hn : n ≤ 32) (hdesc : fieldDesc s.cfg f = plainCell 0 (BitVec.ofNat 8 n))
    (hcell : f.isCell = true) (hlen : LengthsOk s) (hrange : f.inRange s.cfg)
    (hhook : ∀ v t, hookAction w off.toNat v t = .next t) (hread : busRead w off s = doneWord (fieldValue f s &&& maskWord n) s)
    (hwrite : ∀ v, busWrite w off v s = hook w (applyField f (v &&& maskWord n) s)) :
    StorageRegister w off ⟨o, true, true, m, [f]⟩ s := by
  refine storageRegister_single hcell hlen hrange hhook ?_ fun v => ?_
  · rw [hread, hdesc]
    exact congrArg (doneWord · s) (packField_param hn _).symm
  · rw [hwrite, writeStep, hdesc]
    exact congrArg (fun x => hook w (applyField f x s)) (extractField_param hn v).symm

/-- One field that is the whole word. -/
theorem storageRegister_word (hlo : (fieldDesc s.cfg f).lo = 0) (hwidth : (fieldDesc s.cfg f).width = 32)
    (hcell : f.isCell = true) (hlen : LengthsOk s) (hrange : f.inRange s.cfg)
    (hhook : ∀ v t, hookAction w off.toNat v t = .next t) (hread : busRead w off s = doneWord (fieldValue f s) s)
    (hwrite : ∀ v, busWrite w off v s = hook w (applyField f v s)) : StorageRegister w off ⟨o, true, true, m, [f]⟩ s := by
  refine storageRegister_single hcell hlen hrange hhook ?_ fun v => ?_
  · rw [hread, hlo, hwidth]
    exact congrArg (doneWord · s) (packField_word _).symm
  · rw [hwrite, writeStep, hlo, hwidth]
    exact congrArg (fun x => hook w (applyField f x s)) (extractField_word v).symm

end

/-- A divisor is 0 as the bank sees it when it is as the register's rule sees it (R357, R406). -/
theorem divisor_write {α : Type} (v : Word) (a : α) (b : BitVec 16 → α) :
    (if v.extractLsb' 0 16 = 0 then a else b (v.extractLsb' 0 16)) =
      if extractField v 0 16 = 0 then a else b ((extractField v 0 16).setWidth 16) := by
  have hiff : extractField v 0 16 = 0 ↔ v.extractLsb' 0 16 = 0 := by
    rw [← setWidth_extractField]
    refine ⟨fun h => by rw [h]; rfl, fun h => ?_⟩
    by_contra hne
    exact setWidth_extractField_ne_zero hne h
  simp only [hiff, setWidth_extractField]

theorem boolWord_getLsbD (v : Word) (lo : Nat) : boolWord (v.getLsbD lo) = extractField v lo 1 := by
  rw [← getLsbD_extractField_zero]
  exact boolWord_extractField v lo

theorem setWidth_extractLsb' (v : Word) (lo n : Nat) : (v.extractLsb' lo n).setWidth 32 = extractField v lo n := by
  rw [← setWidth_extractField]
  exact setWidth_setWidth_extractField v lo n

/-! ## Registers of several fields (R47, R52, R59, R63) -/

/-- The fields of `UART.CONTROL`. -/
def uartControlFields : List FieldId := [.uartTxEn, .uartRxEn, .uartTxIe, .uartRxIe, .uartOvrIe, .uartRxTrig, .uartTxTrig]

/-- The fields of `UART16550.IER`. -/
def ierFields : List FieldId := [.erbfi, .etbei, .elsi]

/-- The fields of `SPI.CONTROL`. -/
def spiControlFields : List FieldId :=
  [.spiEn, .spiLoopback, .spiMode, .spiTxIe, .spiRxIe, .spiOvrIe, .spiRxTrig, .spiTxTrig]

/-- The fields of `I2C.CONTROL`. -/
def i2cControlFields : List FieldId :=
  [.i2cEn, .i2cStart, .i2cStop, .i2cAck, .i2cTxIe, .i2cRxIe, .i2cOvrIe, .i2cSlaveAddr, .i2cRxTrig, .i2cTxTrig]

section
variable (v : Word) (s : State)

theorem writeSteps_uartControl :
    uartControlFields.foldl (writeStep v) s = { s with uart := setUartControl v s.uart } := by
  simp [uartControlFields, writeStep, applyField, fieldDesc, plainCell, getLsbD_extractField, setWidth_extractField,
    setUartControl, -BitVec.getLsbD_eq_getElem]

theorem packedFields_uartControl : packedFields uartControlFields s = uartControlWord s.uart := by
  simp [uartControlFields, packedFields, fieldValue, fieldDesc, plainCell, packField_boolWord, packField_setWidth,
    uartControlWord]

theorem writeSteps_ier :
    ierFields.foldl (writeStep v) s =
      { s with u16 := { s.u16 with erbfi := v.getLsbD 0, etbei := v.getLsbD 1, elsi := v.getLsbD 2 } } := by
  simp [ierFields, writeStep, applyField, fieldDesc, plainCell, getLsbD_extractField, -BitVec.getLsbD_eq_getElem]

theorem packedFields_ier : packedFields ierFields s = ierWord s.u16 := by
  simp [ierFields, packedFields, fieldValue, fieldDesc, plainCell, packField_boolWord, ierWord]

theorem writeSteps_spiControl : spiControlFields.foldl (writeStep v) s = { s with spi := setSpiControl v s.spi } := by
  simp [spiControlFields, writeStep, applyField, fieldDesc, plainCell, getLsbD_extractField, setWidth_extractField,
    setSpiControl, -BitVec.getLsbD_eq_getElem]

theorem packedFields_spiControl : packedFields spiControlFields s = spiControlWord s.spi := by
  simp [spiControlFields, packedFields, fieldValue, fieldDesc, plainCell, packField_boolWord, packField_setWidth,
    spiControlWord]

theorem writeSteps_i2cControl : i2cControlFields.foldl (writeStep v) s = { s with i2c := setI2cControl v s.i2c } := by
  simp [i2cControlFields, writeStep, applyField, fieldDesc, plainCell, getLsbD_extractField, setWidth_extractField,
    setI2cControl, -BitVec.getLsbD_eq_getElem]

theorem packedFields_i2cControl : packedFields i2cControlFields s = i2cControlWord s.i2c := by
  simp [i2cControlFields, packedFields, fieldValue, fieldDesc, plainCell, packField_boolWord, packField_setWidth,
    i2cControlWord]

theorem storageRegister_uartControl : StorageRegister .uart 0x08 (regAt 0x08 uartControlFields) s where
  readable := rfl
  cells := by decide
  shown v _ := by
    change ∀ f ∈ uartControlFields, fieldValue f (uartControlFields.foldl (writeStep v) s) = _
    rw [writeSteps_uartControl]
    simp only [uartControlFields, List.forall_mem_cons, List.not_mem_nil, IsEmpty.forall_iff, implies_true, and_true]
    exact ⟨boolWord_getLsbD v 0, boolWord_getLsbD v 1, boolWord_getLsbD v 2, boolWord_getLsbD v 3, boolWord_getLsbD v 4,
      setWidth_extractLsb' v 8 5, setWidth_extractLsb' v 16 5⟩
  hookKeeps _ t := ⟨drainIfOn .uart t, rfl, (drainIfOn_portStep .uart t).keepsCells⟩
  busRead := congrArg (doneWord · s) (packedFields_uartControl s).symm
  busWrite v := congrArg (fun t => hook .uart (drainIfOn .uart t)) (writeSteps_uartControl v s).symm

theorem storageRegister_ier (hsel : s.u16.mapSel = false) :
    StorageRegister .uart16550 0x04 ⟨0x04, true, true, .sel0, ierFields⟩ s where
  readable := rfl
  cells := by decide
  shown v _ := by
    change ∀ f ∈ ierFields, fieldValue f (ierFields.foldl (writeStep v) s) = _
    rw [writeSteps_ier]
    simp only [ierFields, List.forall_mem_cons, List.not_mem_nil, IsEmpty.forall_iff, implies_true, and_true]
    exact ⟨boolWord_getLsbD v 0, boolWord_getLsbD v 1, boolWord_getLsbD v 2⟩
  hookKeeps _ t := ⟨t, rfl, .refl t⟩
  busRead := by
    rw [busRead_of_row (i := .rdUart16550Ier) (by rw [hsel]; rfl)]
    exact congrArg (doneWord · s) (packedFields_ier s).symm
  busWrite v := by
    rw [busWrite_of_row (i := .wrUart16550Ier v) (by rw [hsel]; rfl)]
    exact congrArg (hook .uart16550) (writeSteps_ier v s).symm

theorem storageRegister_spiControl : StorageRegister .spi 0x00 (regAt 0x00 spiControlFields) s where
  readable := rfl
  cells := by decide
  shown v _ := by
    change ∀ f ∈ spiControlFields, fieldValue f (spiControlFields.foldl (writeStep v) s) = _
    rw [writeSteps_spiControl]
    simp only [spiControlFields, List.forall_mem_cons, List.not_mem_nil, IsEmpty.forall_iff, implies_true, and_true]
    exact ⟨boolWord_getLsbD v 0, boolWord_getLsbD v 1, setWidth_extractLsb' v 2 2, boolWord_getLsbD v 4, boolWord_getLsbD v 5,
      boolWord_getLsbD v 6, setWidth_extractLsb' v 8 5, setWidth_extractLsb' v 16 5⟩
  hookKeeps _ t := ⟨drainIfOn .spi t, rfl, (drainIfOn_portStep .spi t).keepsCells⟩
  busRead := congrArg (doneWord · s) (packedFields_spiControl s).symm
  busWrite v := congrArg (fun t => hook .spi (drainIfOn .spi t)) (writeSteps_spiControl v s).symm

theorem storageRegister_i2cControl : StorageRegister .i2c 0x00 (regAt 0x00 i2cControlFields) s where
  readable := rfl
  cells := by decide
  shown v _ := by
    change ∀ f ∈ i2cControlFields, fieldValue f (i2cControlFields.foldl (writeStep v) s) = _
    rw [writeSteps_i2cControl]
    simp only [i2cControlFields, List.forall_mem_cons, List.not_mem_nil, IsEmpty.forall_iff, implies_true, and_true]
    exact ⟨boolWord_getLsbD v 0, boolWord_getLsbD v 1, boolWord_getLsbD v 2, boolWord_getLsbD v 3, boolWord_getLsbD v 4,
      boolWord_getLsbD v 5, boolWord_getLsbD v 6, setWidth_extractLsb' v 8 7, setWidth_extractLsb' v 16 5,
      setWidth_extractLsb' v 24 5⟩
  hookKeeps _ t := ⟨drainIfOn .i2c t, rfl, (drainIfOn_portStep .i2c t).keepsCells⟩
  busRead := congrArg (doneWord · s) (packedFields_i2cControl s).symm
  busWrite v := congrArg (fun t => hook .i2c (drainIfOn .i2c t)) (writeSteps_i2cControl v s).symm

end

section
variable {off : BitVec 12} {r : Register} {s : State}

theorem storage_gpio (hinv : s.Inv) (hoff : storageOffset s.cfg s.u16.mapSel .gpio off.toNat)
    (hr : lookup s.cfg s.u16.mapSel .gpio false off.toNat = some r) : StorageRegister .gpio off r s := by
  obtain ⟨⟨_, _, hpins, _⟩, hlen, _⟩ := hinv
  obtain h | ⟨hext, h | h | h | h⟩ := hoff
  · obtain rfl : off = 0x04 := BitVec.eq_of_toNat_eq h
    obtain rfl := eq_of_lookup hr (r' := regAt 0x04 [.gpioDir]) (by simp [registersOf]) rfl rfl
    exact storageRegister_param hpins rfl rfl hlen trivial (fun _ _ => rfl) rfl fun _ => rfl
  · obtain rfl : off = 0x08 := BitVec.eq_of_toNat_eq h
    obtain rfl := eq_of_lookup hr (r' := regAt 0x08 [.gpioIe]) (by simp [registersOf, hext]) rfl rfl
    exact storageRegister_param hpins rfl rfl hlen trivial (fun _ _ => rfl) (if_pos hext) fun _ => if_pos hext
  · obtain rfl : off = 0x10 := BitVec.eq_of_toNat_eq h
    obtain rfl := eq_of_lookup hr (r' := regAt 0x10 [.gpioIt]) (by simp [registersOf, hext]) rfl rfl
    exact storageRegister_param hpins rfl rfl hlen trivial (fun _ _ => rfl) (if_pos hext) fun _ => if_pos hext
  · obtain rfl : off = 0x14 := BitVec.eq_of_toNat_eq h
    obtain rfl := eq_of_lookup hr (r' := regAt 0x14 [.gpioIp]) (by simp [registersOf, hext]) rfl rfl
    exact storageRegister_param hpins rfl rfl hlen trivial (fun _ _ => rfl) (if_pos hext) fun _ => if_pos hext
  · obtain rfl : off = 0x18 := BitVec.eq_of_toNat_eq h
    obtain rfl := eq_of_lookup hr (r' := regAt 0x18 [.gpioEdge]) (by simp [registersOf, hext]) rfl rfl
    exact storageRegister_param hpins rfl rfl hlen trivial (fun _ _ => rfl) (if_pos hext) fun _ => if_pos hext

theorem storage_uart (hinv : s.Inv) (hoff : storageOffset s.cfg s.u16.mapSel .uart off.toNat)
    (hr : lookup s.cfg s.u16.mapSel .uart false off.toNat = some r) : StorageRegister .uart off r s := by
  obtain ⟨_, hlen, _⟩ := hinv
  obtain h | h := hoff
  · obtain rfl : off = 0x08 := BitVec.eq_of_toNat_eq h
    obtain rfl := eq_of_lookup hr (r' := regAt 0x08 uartControlFields) (by simp [registersOf, uartControlFields]) rfl rfl
    exact storageRegister_uartControl s
  · obtain rfl : off = 0x0C := BitVec.eq_of_toNat_eq h
    obtain rfl := eq_of_lookup hr (r' := regAt 0x0C [.uartDiv]) (by simp [registersOf]) rfl rfl
    exact storageRegister_single rfl hlen trivial (fun _ _ => rfl)
      (congrArg (doneWord · s) (packField_setWidth s.uart.div 0).symm) fun v =>
      congrArg (hook .uart) (divisor_write v (warn .zeroDiv s) fun d => { s with uart := { s.uart with div := d } })

theorem storage_uart16550 (hinv : s.Inv) (hoff : storageOffset s.cfg s.u16.mapSel .uart16550 off.toNat)
    (hr : lookup s.cfg s.u16.mapSel .uart16550 false off.toNat = some r) : StorageRegister .uart16550 off r s := by
  obtain ⟨_, hlen, _⟩ := hinv
  obtain h | h | ⟨h, hsel⟩ := hoff
  · obtain rfl : off = 0x04 := BitVec.eq_of_toNat_eq h
    cases hsel : s.u16.mapSel with
    | false =>
      rw [hsel] at hr
      obtain rfl := eq_of_lookup hr (r' := ⟨0x04, true, true, .sel0, ierFields⟩) (by simp [registersOf, ierFields]) rfl rfl
      exact storageRegister_ier s hsel
    | true =>
      rw [hsel] at hr
      obtain rfl := eq_of_lookup hr (r' := ⟨0x04, true, true, .sel1, [.dlh]⟩) (by simp [registersOf]) rfl rfl
      refine storageRegister_single rfl hlen trivial (fun _ _ => rfl) ?_ fun v => ?_
      · rw [busRead_of_row (i := .rdUart16550Dlh) (by rw [hsel]; rfl)]
        exact congrArg (doneWord · s) (packField_setWidth s.u16.dlh 0).symm
      · rw [busWrite_of_row (i := .wrUart16550Dlh v) (by rw [hsel]; rfl)]
        exact congrArg (fun x => hook .uart16550 { s with u16 := { s.u16 with dlh := x } }) (setWidth_extractField v 0 8).symm
  · obtain rfl : off = 0x0C := BitVec.eq_of_toNat_eq h
    obtain rfl := eq_of_lookup hr (r' := regAt 0x0C [.lcr]) (by simp [registersOf]) rfl rfl
    exact storageRegister_single rfl hlen trivial (fun _ _ => rfl)
      (congrArg (doneWord · s) (packField_setWidth s.u16.lcr 0).symm) fun v =>
      congrArg (fun x => hook .uart16550 { s with u16 := { s.u16 with lcr := x } }) (setWidth_extractField v 0 8).symm
  · obtain rfl : off = 0x00 := BitVec.eq_of_toNat_eq h
    rw [hsel] at hr
    obtain rfl := eq_of_lookup hr (r' := ⟨0x00, true, true, .sel1, [.dll]⟩) (by simp [registersOf]) rfl rfl
    refine storageRegister_single rfl hlen trivial (fun _ _ => rfl) ?_ fun v => ?_
    · rw [busRead_of_row (i := .rdUart16550Dll) (by rw [hsel]; rfl)]
      exact congrArg (doneWord · s) (packField_setWidth s.u16.dll 0).symm
    · rw [busWrite_of_row (i := .wrUart16550Dll v) (by rw [hsel]; rfl)]
      exact congrArg (fun x => hook .uart16550 { s with u16 := { s.u16 with dll := x } }) (setWidth_extractField v 0 8).symm

theorem storage_spi (hoff : storageOffset s.cfg s.u16.mapSel .spi off.toNat)
    (hr : lookup s.cfg s.u16.mapSel .spi false off.toNat = some r) : StorageRegister .spi off r s := by
  obtain rfl : off = 0x00 := BitVec.eq_of_toNat_eq hoff
  obtain rfl := eq_of_lookup hr (r' := regAt 0x00 spiControlFields) (by simp [registersOf, spiControlFields]) rfl rfl
  exact storageRegister_spiControl s

theorem storage_i2c (hinv : s.Inv) (hoff : storageOffset s.cfg s.u16.mapSel .i2c off.toNat)
    (hr : lookup s.cfg s.u16.mapSel .i2c false off.toNat = some r) : StorageRegister .i2c off r s := by
  obtain ⟨_, hlen, _⟩ := hinv
  obtain h | h := hoff
  · obtain rfl : off = 0x00 := BitVec.eq_of_toNat_eq h
    obtain rfl := eq_of_lookup hr (r' := regAt 0x00 i2cControlFields) (by simp [registersOf, i2cControlFields]) rfl rfl
    exact storageRegister_i2cControl s
  · obtain rfl : off = 0x0C := BitVec.eq_of_toNat_eq h
    obtain rfl := eq_of_lookup hr (r' := regAt 0x0C [.i2cDiv]) (by simp [registersOf]) rfl rfl
    exact storageRegister_single rfl hlen trivial (fun _ _ => rfl)
      (congrArg (doneWord · s) (packField_setWidth s.i2c.div 0).symm) fun v =>
      congrArg (hook .i2c) (divisor_write v (warn .zeroDiv s) fun d => { s with i2c := { s.i2c with div := d } })

theorem cmpTarget_mem_registersOf {c : Config} {k : Nat} (hk : k < c.nCmp) :
    regAt (cmpOff k 0) [.cmpTarget k] ∈ registersOf c .timer :=
  List.mem_append_right _ (List.mem_flatMap.mpr ⟨k, List.mem_range.mpr hk, List.mem_cons_self⟩)

theorem intcPrio_mem_registersOf {c : Config} {n : Nat} (hn : n < c.nIrqSrc) :
    regAt (prioOff n) [.intcPrio n] ∈ registersOf c .intc :=
  List.mem_append_right _ (List.mem_map.mpr ⟨n, List.mem_range.mpr hn, rfl⟩)

theorem mem_registersOf_dma {c : Config} {n : Nat} (hn : n < c.nDmaCh) {r : Register}
    (hr : r ∈ [regAt (chOff n 0x0) [.chSrc n], regAt (chOff n 0x4) [.chDst n], regAt (chOff n 0x8) [.chCount n],
      regAt (chOff n 0xC) [.chEn n, .chStart n, .chIe n, .chIf n]]) : r ∈ registersOf c .dma :=
  List.mem_cons_of_mem _ (List.mem_flatMap.mpr ⟨n, List.mem_range.mpr hn, hr⟩)

theorem exists_cmpOffset {k : Nat} {x : BitVec 4} (hk : k < 14) (h : off.toNat = cmpOff k x.toNat) :
    ∃ j : BitVec 4, cmpIndexWf j = true ∧ k = j.toNat ∧ off = cmpOffset j x := by
  have htoNat : ∀ j x : BitVec 4, cmpIndexWf j = true → (cmpOffset j x).toNat = cmpOff j.toNat x.toNat := by decide
  have hj : (BitVec.ofNat 4 k).toNat = k := Nat.mod_eq_of_lt (by omega)
  have hwf : cmpIndexWf (BitVec.ofNat 4 k) = true := decide_eq_true (hj.symm ▸ hk)
  exact ⟨BitVec.ofNat 4 k, hwf, hj.symm, BitVec.eq_of_toNat_eq (h.trans (by rw [htoNat _ _ hwf, hj]))⟩

theorem exists_chOffset {n : Nat} {x : BitVec 5} (hn : n < 8) (h : off.toNat = chOff n x.toNat) :
    ∃ j : BitVec 3, n = j.toNat ∧ off = chOffset j x := by
  have htoNat : ∀ (j : BitVec 3) (x : BitVec 5), (chOffset j x).toNat = chOff j.toNat x.toNat := by decide
  have hj : (BitVec.ofNat 3 n).toNat = n := Nat.mod_eq_of_lt (by omega)
  exact ⟨BitVec.ofNat 3 n, hj.symm, BitVec.eq_of_toNat_eq (h.trans (by rw [htoNat, hj]))⟩

theorem exists_prioOffset {n : Nat} (hn : n < 32) (h : off.toNat = prioOff n) :
    ∃ j : BitVec 5, n = j.toNat ∧ off = prioOffset j := by
  have htoNat : ∀ j : BitVec 5, (prioOffset j).toNat = prioOff j.toNat := by decide
  have hj : (BitVec.ofNat 5 n).toNat = n := Nat.mod_eq_of_lt (by omega)
  exact ⟨BitVec.ofNat 5 n, hj.symm, BitVec.eq_of_toNat_eq (h.trans (by rw [htoNat, hj]))⟩

theorem storage_timer (hinv : s.Inv) (hoff : storageOffset s.cfg s.u16.mapSel .timer off.toNat)
    (hr : lookup s.cfg s.u16.mapSel .timer false off.toNat = some r) : StorageRegister .timer off r s := by
  obtain ⟨⟨_, _, _, hcmps, _⟩, hlen, _⟩ := hinv
  obtain h | h | ⟨k, hk, h⟩ := hoff
  · obtain rfl : off = 0x08 := BitVec.eq_of_toNat_eq h
    obtain rfl := eq_of_lookup hr (r' := regAt 0x08 [.timerLimit]) (by simp [registersOf]) rfl rfl
    exact storageRegister_word rfl rfl rfl hlen trivial (fun _ _ => rfl) rfl fun _ => rfl
  · obtain rfl : off = 0x0C := BitVec.eq_of_toNat_eq h
    obtain rfl := eq_of_lookup hr (r' := regAt 0x0C [.timerPrescaler]) (by simp [registersOf]) rfl rfl
    exact storageRegister_word rfl rfl rfl hlen trivial (fun _ _ => rfl) rfl fun _ => rfl
  · obtain rfl := eq_of_lookup hr (r' := regAt (cmpOff k 0) [.cmpTarget k]) (cmpTarget_mem_registersOf hk) h.symm rfl
    obtain ⟨j, hwf, rfl, rfl⟩ := exists_cmpOffset (x := 0) (by omega) h
    obtain ⟨c, hc⟩ := cmpAt_isSome hlen hk
    refine storageRegister_word rfl rfl rfl hlen hk (fun _ _ => rfl) ?_ fun v => ?_
    · rw [busRead_of_row (w := .timer) (readTimer_cmpOffset hwf).1]
      simp only [exec, execRdTimerCmpTarget, fieldValue, hc, Option.elim_some]
    · rw [busWrite_of_row (w := .timer) (writeTimer_cmpOffset hwf v).1]
      simp only [exec, execWrTimerCmpTarget, applyField, modifyCmp, hc]

theorem hookAction_dma_of_chOff {n x : Nat} (hx : x < 0x20) (hne : x ≠ 0xC) (v : Word) (t : State) :
    hookAction .dma (chOff n x) v t = .next t := by
  refine if_neg fun ⟨_, hmod, _⟩ => hne ?_
  rw [chOff] at hmod
  omega

/-- A whole-word Register of a channel, other than `CTRL`, whose write may start a transfer (R452). -/
theorem storageRegister_channel {f : FieldId} {o : Nat} {j : BitVec 3} {x : BitVec 5} {rd : Instr} {wr : Word → Instr}
    (hlo : (fieldDesc s.cfg f).lo = 0) (hwidth : (fieldDesc s.cfg f).width = 32) (hcell : f.isCell = true) (hlen : LengthsOk s)
    (hrange : f.inRange s.cfg) (hx : x.toNat ≠ 0xC) (h : (chOffset j x).toNat = chOff j.toNat x.toNat)
    (hrd : readDma (chOffset j x) = some rd) (hwr : ∀ v, writeDma (chOffset j x) v = some (wr v))
    (hread : exec rd s = doneWord (fieldValue f s) s) (hwrite : ∀ v, exec (wr v) s = hook .dma (applyField f v s)) :
    StorageRegister .dma (chOffset j x) (regAt o [f]) s := by
  refine storageRegister_word hlo hwidth hcell hlen hrange (fun v t => ?_)
    ((busRead_of_row (w := .dma) hrd).trans hread) fun v => (busWrite_of_row (w := .dma) (hwr v)).trans (hwrite v)
  rw [h]
  exact hookAction_dma_of_chOff x.isLt hx v t

theorem storage_dma (hinv : s.Inv) (hoff : storageOffset s.cfg s.u16.mapSel .dma off.toNat)
    (hr : lookup s.cfg s.u16.mapSel .dma false off.toNat = some r) : StorageRegister .dma off r s := by
  obtain ⟨⟨_, _, _, _, _, hchans, _⟩, hlen, _⟩ := hinv
  obtain h | ⟨n, hn, h | h | h⟩ := hoff
  · obtain rfl : off = 0x00 := BitVec.eq_of_toNat_eq h
    obtain rfl := eq_of_lookup hr (r' := regAt 0x00 [.dmaEn]) (by simp [registersOf]) rfl rfl
    exact storageRegister_single rfl hlen trivial (fun _ _ => rfl)
      (congrArg (doneWord · s) (packField_boolWord s.dma.en 0).symm) fun v =>
      congrArg (fun b => hook .dma { s with dma := { s.dma with en := b } }) (getLsbD_extractField_zero v 0).symm
  · obtain rfl := eq_of_lookup hr (r' := regAt (chOff n 0x00) [.chSrc n]) (mem_registersOf_dma hn (by simp)) h.symm rfl
    obtain ⟨j, rfl, rfl⟩ := exists_chOffset (x := 0x00) (by omega) h
    obtain ⟨c, hc⟩ := chanAt_isSome hlen hn
    exact storageRegister_channel rfl rfl rfl hlen hn (by decide) h (have ⟨hrow, _⟩ := readDma_chOffset j; hrow)
      (fun v => have ⟨hrow, _⟩ := writeDma_chOffset j v; hrow)
      (by simp only [exec, execRdDmaChSrc, fieldValue, hc, Option.elim_some])
      fun v => by simp only [exec, execWrDmaChSrc, applyField, modifyChan, hc]
  · obtain rfl := eq_of_lookup hr (r' := regAt (chOff n 0x04) [.chDst n]) (mem_registersOf_dma hn (by simp)) h.symm rfl
    obtain ⟨j, rfl, rfl⟩ := exists_chOffset (x := 0x04) (by omega) h
    obtain ⟨c, hc⟩ := chanAt_isSome hlen hn
    exact storageRegister_channel rfl rfl rfl hlen hn (by decide) h (have ⟨_, hrow, _⟩ := readDma_chOffset j; hrow)
      (fun v => have ⟨_, hrow, _⟩ := writeDma_chOffset j v; hrow)
      (by simp only [exec, execRdDmaChDst, fieldValue, hc, Option.elim_some])
      fun v => by simp only [exec, execWrDmaChDst, applyField, modifyChan, hc]
  · obtain rfl := eq_of_lookup hr (r' := regAt (chOff n 0x08) [.chCount n]) (mem_registersOf_dma hn (by simp)) h.symm rfl
    obtain ⟨j, rfl, rfl⟩ := exists_chOffset (x := 0x08) (by omega) h
    obtain ⟨c, hc⟩ := chanAt_isSome hlen hn
    exact storageRegister_channel rfl rfl rfl hlen hn (by decide) h (have ⟨_, _, hrow, _⟩ := readDma_chOffset j; hrow)
      (fun v => have ⟨_, _, hrow, _⟩ := writeDma_chOffset j v; hrow)
      (by simp only [exec, execRdDmaChCount, fieldValue, hc, Option.elim_some])
      fun v => by simp only [exec, execWrDmaChCount, applyField, modifyChan, hc]

theorem storage_intc (hinv : s.Inv) (hoff : storageOffset s.cfg s.u16.mapSel .intc off.toNat)
    (hr : lookup s.cfg s.u16.mapSel .intc false off.toNat = some r) : StorageRegister .intc off r s := by
  obtain ⟨⟨_, _, _, _, _, _, _, hsrcs⟩, hlen, _⟩ := hinv
  obtain h | ⟨n, hn, h⟩ := hoff
  · obtain rfl : off = 0x00 := BitVec.eq_of_toNat_eq h
    obtain rfl := eq_of_lookup hr (r' := regAt 0x00 [.intcEnable]) (by simp [registersOf]) rfl rfl
    exact storageRegister_param hsrcs rfl rfl hlen trivial (fun _ _ => rfl) rfl fun _ => rfl
  · obtain rfl := eq_of_lookup hr (r' := regAt (prioOff n) [.intcPrio n]) (intcPrio_mem_registersOf hn) h.symm rfl
    obtain ⟨j, rfl, rfl⟩ := exists_prioOffset (by omega) h
    obtain ⟨p, hp⟩ := prioAt_isSome hlen hn
    refine storageRegister_single rfl hlen hn (fun _ _ => rfl) ?_ fun v => ?_
    · rw [busRead_of_row (w := .intc) (intcRow_prioOffset j 0).1]
      simp only [exec, execRdIntcPriority, fieldValue, hp, Option.elim_some]
      exact congrArg (doneWord · s) (packField_setWidth p 0).symm
    · rw [busWrite_of_row (w := .intc) (intcRow_prioOffset j v).2]
      simp only [exec, execWrIntcPriority, hp]
      exact congrArg (fun x => hook .intc { s with intc := { s.intc with prio := s.intc.prio.set j.toNat x } })
        (setWidth_extractField v 0 8).symm

theorem storageRegister_of_storageOffset {w : Window} (hinv : s.Inv) (hoff : storageOffset s.cfg s.u16.mapSel w off.toNat)
    (hr : lookup s.cfg s.u16.mapSel w false off.toNat = some r) : StorageRegister w off r s := by
  cases w with
  | gpio => exact storage_gpio hinv hoff hr
  | uart => exact storage_uart hinv hoff hr
  | uart16550 => exact storage_uart16550 hinv hoff hr
  | spi => exact storage_spi hoff hr
  | i2c => exact storage_i2c hinv hoff hr
  | timer => exact storage_timer hinv hoff hr
  | dma => exact storage_dma hinv hoff hr
  | intc => exact storage_intc hinv hoff hr

end

/-- Settles O13: the write leaves every cell showing its part of the word, and the read packs the cells again. -/
theorem storageReadsBackWhatWasWritten : Obligations.StorageReadsBackWhatWasWritten := by
  intro w off v s r hinv hoff hr hv
  have hreg := storageRegister_of_storageOffset hinv hoff hr
  obtain ⟨u, haction, hkeeps⟩ := hreg.hookKeeps v (r.fields.foldl (writeStep v) s)
  have hoffw : (off.setWidth 32).toNat = off.toNat := by simp; omega
  have hbus : busWrite w off v s = .next (ret .nothing (updateInterrupts w u)) := by
    rw [hreg.busWrite, haction]
    rfl
  have hbank : exec (.opRbWrite w (off.setWidth 32) v) s = .next (ret .nothing (updateInterrupts w u)) := by
    rw [← hbus, hreg.busWrite]
    simp only [exec, execOpRbWrite, rbWrite, hoffw, hr]
  have hcells : KeepsCells (r.fields.foldl (writeStep v) s) (ret .nothing (updateInterrupts w u)) :=
    hkeeps.trans (keepsCells_hook w u)
  have hadv := exec_advances _ _ _ hbank
  generalize ret .nothing (updateInterrupts w u) = s1 at *
  have hcfg : s1.cfg = s.cfg := hadv.cfg
  have hsel : s1.u16.mapSel = s.u16.mapSel := hcells.mapSel.trans (mapSel_writeSteps v r.fields s hreg.cells)
  have hr1 : lookup s1.cfg s1.u16.mapSel w false off.toNat = some r := by rw [hcfg, hsel, hr]
  have hreg1 := storageRegister_of_storageOffset (hadv.inv hinv) (by rw [hcfg, hsel]; exact hoff) hr1
  have hshown : packedFields r.fields s1 = v &&& implementedBits s.cfg r :=
    packedFields_of_shown hcfg fun f hf => (hcells.value f (hreg.cells f hf)).trans (hreg.shown v hv f hf)
  refine ⟨s1, ret (.word (packedFields r.fields s1)) s1, hbus, hbank, hreg1.busRead, ?_, congrArg Result.word hshown⟩
  have hread := rbRead_pure (lookup_read_of_write hr1 hreg.readable) fun f hf => effect_of_isCell (hreg.cells f hf)
  simp only [exec, execOpRbRead, hoffw]
  exact hread

end Sys2Proof.Machine
end

section
/-! The definition check (R153, R484): each Boolean clause of `bankDefect` is the clause of the rule, and the banks of the
block meet all six. -/

namespace Sys2Proof.Machine

/-! ## The clauses, one by one -/

section
variable {bank : List RegDesc}

theorem all_offsetOk_iff : bank.all offsetOk = true ↔ bankClause .fOffset bank := by
  simp [bankClause, offsetOk]

theorem offsetsDistinct_iff : ∀ {bank : List RegDesc}, offsetsDistinct bank = true ↔ bankClause .fDupOffset bank
  | [] => by simp [offsetsDistinct, bankClause]
  | r :: rs => by
    have ih := offsetsDistinct_iff (bank := rs)
    simp only [bankClause] at ih ⊢
    rw [offsetsDistinct, Bool.and_eq_true, ih, List.pairwise_cons]
    simp [imp_iff_not_or]

theorem rangeOk_iff (f : FieldDesc) :
    rangeOk f = true ↔ 1 ≤ f.width.toNat ∧ f.width.toNat ≤ 32 ∧ f.lo.toNat + f.width.toNat ≤ 32 := by
  simp only [rangeOk, Bool.and_eq_true, decide_eq_true_eq]
  omega

theorem all_rangeOk_iff : bank.all (fun r => r.fields.all rangeOk) = true ↔ bankClause .fFieldRange bank := by
  simp only [List.all_eq_true, bankClause, rangeOk_iff]

/-- Two fields of at least one bit meet exactly where they share a bit: the higher of their lowest bits. -/
theorem fieldsMeet_eq_false_iff {f g : FieldDesc} (hf : rangeOk f = true) (hg : rangeOk g = true) :
    fieldsMeet f g = false ↔ ∀ i, ¬(fieldHas f i ∧ fieldHas g i) := by
  obtain ⟨hf, _⟩ := (rangeOk_iff f).mp hf
  obtain ⟨hg, _⟩ := (rangeOk_iff g).mp hg
  simp only [fieldsMeet, fieldHas, Bool.and_eq_false_iff, decide_eq_false_iff_not]
  constructor
  · omega
  · intro h
    have := h (max f.lo.toNat g.lo.toNat)
    omega

theorem noOverlap_iff : ∀ {fs : List FieldDesc}, (∀ f ∈ fs, rangeOk f = true) →
    (noOverlap fs = true ↔ fs.Pairwise (fun f g => ∀ i, ¬(fieldHas f i ∧ fieldHas g i)))
  | [], _ => by simp [noOverlap]
  | f :: fs, h => by
    obtain ⟨hf, hfs⟩ := List.forall_mem_cons.mp h
    rw [noOverlap, Bool.and_eq_true, noOverlap_iff hfs, List.pairwise_cons, List.all_eq_true]
    refine and_congr_left fun _ => forall₂_congr fun g hg => ?_
    rw [Bool.not_eq_true', fieldsMeet_eq_false_iff hf (hfs g hg)]

theorem all_noOverlap_iff (hrange : bankClause .fFieldRange bank) :
    bank.all (fun r => noOverlap r.fields) = true ↔ bankClause .fOverlap bank := by
  rw [List.all_eq_true]
  refine forall₂_congr fun r hr => noOverlap_iff fun f hf => ?_
  exact (rangeOk_iff f).mpr (hrange r hr f hf)

theorem all_resetFits_iff : bank.all (fun r => r.fields.all resetFits) = true ↔ bankClause .fResetWidth bank := by
  simp only [List.all_eq_true, bankClause, resetFits, decide_eq_true_eq]

theorem getLsbD_fieldBits {f : FieldDesc} {i : Nat} (hi : i < 32) : (fieldBits f).getLsbD i = true ↔ fieldHas f i := by
  rw [fieldBits, BitVec.getLsbD_shiftLeft, getLsbD_maskWord, fieldHas]
  simp only [hi, decide_true, Bool.true_and, Bool.and_eq_true, Bool.not_eq_true', decide_eq_false_iff_not,
    decide_eq_true_eq]
  omega

theorem getLsbD_foldl_fieldBits {i : Nat} (hi : i < 32) : ∀ (fs : List FieldDesc) (m : Word),
    (fs.foldl (fun m f => m ||| fieldBits f) m).getLsbD i = true ↔ m.getLsbD i = true ∨ ∃ f ∈ fs, fieldHas f i
  | [], m => by simp
  | f :: fs, m => by
    rw [List.foldl_cons, getLsbD_foldl_fieldBits hi fs, BitVec.getLsbD_or, Bool.or_eq_true, getLsbD_fieldBits hi]
    simp [or_assoc]

/-- A bit is reserved when no field has it (R146). -/
theorem getLsbD_reservedBits {r : RegDesc} {i : Nat} (hi : i < 32) :
    (reservedBits r).getLsbD i = true ↔ ∀ f ∈ r.fields, ¬fieldHas f i := by
  rw [reservedBits, BitVec.getLsbD_not, decide_eq_true hi, Bool.true_and, Bool.not_eq_true', ← Bool.not_eq_true,
    getLsbD_foldl_fieldBits hi]
  simp

theorem reservedZero_iff (r : RegDesc) :
    reservedZero r = true ↔ ∀ i, r.fatalReserved.getLsbD i = true → (∀ f ∈ r.fields, ¬fieldHas f i) →
      r.resetWord.getLsbD i = false := by
  rw [reservedZero, beq_iff_eq]
  constructor
  · intro h i hfatal hfree
    have hi : i < 32 := BitVec.lt_of_getLsbD hfatal
    have hbit := congrArg (·.getLsbD i) h
    simpa [-BitVec.getLsbD_eq_getElem, hfatal, (getLsbD_reservedBits hi).mpr hfree] using hbit
  · intro h
    refine BitVec.eq_of_getLsbD_eq fun i hi => ?_
    change _ = (0#32).getLsbD i
    rw [BitVec.getLsbD_and, BitVec.getLsbD_and, BitVec.getLsbD_zero, ← Bool.not_eq_true, Bool.and_eq_true, Bool.and_eq_true,
      getLsbD_reservedBits hi]
    rintro ⟨⟨hreset, hfatal⟩, hfree⟩
    exact Bool.false_ne_true ((h i hfatal hfree).symm.trans hreset)

theorem all_reservedZero_iff : bank.all reservedZero = true ↔ bankClause .fReservedNonzero bank := by
  simp only [List.all_eq_true, bankClause, reservedZero_iff]

/-! ## The check -/

/-- The check passes a well-formed bank, and names a clause that any other fails (R153, R484). -/
theorem bankDefect_spec (bank : List RegDesc) :
    (BankWellFormed bank ∧ bankDefect bank = none) ∨ ∃ c, ¬bankClause c bank ∧ bankDefect bank = some c := by
  have fails {b : Bool} {p : Prop} (hiff : b = true ↔ p) (h : (!b) = true) : ¬p := by
    rw [← hiff, Bool.not_eq_true, ← Bool.not_eq_true', h]
  have holds {b : Bool} {p : Prop} (hiff : b = true ↔ p) (h : ¬(!b) = true) : p := by
    rwa [Bool.not_eq_true, Bool.not_eq_false', hiff] at h
  unfold bankDefect
  split
  next h => exact .inr ⟨_, fails all_offsetOk_iff h, rfl⟩
  next h =>
  have hoffset := holds all_offsetOk_iff h
  split
  next h => exact .inr ⟨_, fails offsetsDistinct_iff h, rfl⟩
  next h =>
  have hdup := holds offsetsDistinct_iff h
  split
  next h => exact .inr ⟨_, fails all_rangeOk_iff h, rfl⟩
  next h =>
  have hrange := holds all_rangeOk_iff h
  split
  next h => exact .inr ⟨_, fails (all_noOverlap_iff hrange) h, rfl⟩
  next h =>
  have hoverlap := holds (all_noOverlap_iff hrange) h
  split
  next h => exact .inr ⟨_, fails all_resetFits_iff h, rfl⟩
  next h =>
  have hreset := holds all_resetFits_iff h
  split
  next h => exact .inr ⟨_, fails all_reservedZero_iff h, rfl⟩
  next h =>
  have hreserved := holds all_reservedZero_iff h
  exact .inl ⟨fun c => by cases c <;> assumption, rfl⟩

end

/-! ## The banks of the block (R36 to R84) -/

/-- Where the Registers of a window stand (R9, R115). -/
theorem off_of_mem_registersOf {c : Config} (hc : c.Legal) {w : Window} {r : Register} (hr : r ∈ registersOf c w) :
    r.off < 0x1000 ∧ r.off % 4 = 0 ∧ r.off < windowSize c w := by
  obtain ⟨_, _, _, hcmps, _, hchans, _, hsrcs⟩ := hc
  have h : ∀ r ∈ registersOf c w, r.off < 0x1000 ∧ r.off % 4 = 0 ∧ r.off < windowSize c w := by
    cases w <;> simp only [registersOf, regAt, windowSize, cmpOff, chOff, prioOff, List.forall_mem_append, List.forall_mem_cons,
      List.forall_mem_flatMap, List.forall_mem_map, List.mem_range, List.not_mem_nil, IsEmpty.forall_iff, implies_true, and_true,
      true_and]
    case gpio => cases c.gpioExt <;> decide
    case uart | uart16550 | spi | i2c => decide
    case timer | dma | intc => and_intros <;> intros <;> omega
  exact h r hr

/-- Every field lies within the word, and its reset value within the field. -/
theorem fieldDesc_fits {c : Config} (hc : c.Legal) (f : FieldId) :
    rangeOk (fieldDesc c f) = true ∧ resetFits (fieldDesc c f) = true := by
  obtain ⟨_, hpins, hpins', _, _, _, hsrcs, hsrcs'⟩ := hc
  have hparam {n : Nat} (h : 1 ≤ n) (h' : n ≤ 32) (d : FieldDesc) (hlo : d.lo = 0) (hwidth : d.width = BitVec.ofNat 8 n)
      (hreset : d.reset = 0) : rangeOk d = true ∧ resetFits d = true := by
    have hn : d.width.toNat = n := by rw [hwidth, BitVec.toNat_ofNat]; omega
    simp [rangeOk, resetFits, hn, hlo, hreset, h, h']
  cases f with
  | gpioData | gpioDir | gpioIe | gpioIs | gpioIt | gpioIp | gpioEdge => exact hparam hpins hpins' _ rfl rfl rfl
  | intcEnable | intcPending => exact hparam hsrcs hsrcs' _ rfl rfl rfl
  | _ => exact ⟨rfl, rfl⟩

theorem noOverlap_of_mem_registersOf {c : Config} {w : Window} {r : Register} (hr : r ∈ registersOf c w) :
    noOverlap (r.fields.map (fieldDesc c)) = true := by
  have h : ∀ r ∈ registersOf c w, noOverlap (r.fields.map (fieldDesc c)) = true := by
    cases w with
    | gpio =>
      rw [registersOf]
      cases c.gpioExt <;> exact List.all_eq_true.mp rfl
    | uart | uart16550 | spi | i2c => exact List.all_eq_true.mp rfl
    | timer =>
      exact List.forall_mem_append.mpr ⟨List.all_eq_true.mp rfl, List.forall_mem_flatMap.mpr fun k _ => List.all_eq_true.mp rfl⟩
    | dma => exact List.forall_mem_cons.mpr ⟨rfl, List.forall_mem_flatMap.mpr fun n _ => List.all_eq_true.mp rfl⟩
    | intc => exact List.forall_mem_append.mpr ⟨List.all_eq_true.mp rfl, List.forall_mem_map.mpr fun n _ => rfl⟩
  exact h r hr

theorem bankWellFormed_bankOf {c : Config} (hc : c.Legal) (w : Window) : BankWellFormed (bankOf c w) := by
  have hoff {r : Register} (hr : r ∈ registersOf c w) : (regDescOf c r).off.toNat = r.off := by
    have ⟨hlt, _⟩ := off_of_mem_registersOf hc hr
    exact BitVec.toNat_ofNat .. |>.trans (Nat.mod_eq_of_lt (by omega))
  intro code
  cases code <;> simp only [bankClause, bankOf, List.forall_mem_map]
  case fOffset =>
    intro r hr
    obtain ⟨hlt, hmod, _⟩ := off_of_mem_registersOf hc hr
    rw [hoff hr]
    exact ⟨hmod, hlt⟩
  case fDupOffset =>
    refine List.pairwise_map.mpr ((offsets_distinct c w).imp_of_mem fun {a b} ha hb hne hmeets heq => hne hmeets ?_)
    rw [← hoff ha, ← hoff hb, heq]
  case fFieldRange => exact fun r _ => List.forall_mem_map.mpr fun f _ => (rangeOk_iff _).mp (fieldDesc_fits hc f).1
  case fOverlap =>
    exact fun r hr => (noOverlap_iff (List.forall_mem_map.mpr fun f _ => (fieldDesc_fits hc f).1)).mp
      (noOverlap_of_mem_registersOf hr)
  case fResetWidth =>
    exact fun r _ => List.forall_mem_map.mpr fun f _ => of_decide_eq_true (fieldDesc_fits hc f).2
  case fReservedNonzero => exact fun r _ i hfatal => absurd hfatal (by simp [regDescOf])

/-- Settles O14: the check by `bankDefect_spec`, the banks of the block by `bankWellFormed_bankOf`. -/
theorem definitionCheckIsR153 : Obligations.DefinitionCheckIsR153 := by
  refine ⟨fun bank s hwf => ?passes, fun bank s hill => ?stops, fun c w hc => bankWellFormed_bankOf hc w⟩
  all_goals
    simp only [exec, execOpRbDefine]
    obtain ⟨hgood, hnone⟩ | ⟨c, hbad, hsome⟩ := bankDefect_spec bank
  case passes.inl => rw [hnone]; rfl
  case passes.inr => exact absurd (hwf c) hbad
  case stops.inl => exact absurd hgood hill
  case stops.inr => exact ⟨c, by rw [hsome], hbad⟩

end Sys2Proof.Machine
end

section
/-! Reserved bits (R146): what a read packs lies within the fields, and what a write hands the fields, and its hook, comes from
their bits alone. -/

namespace Sys2Proof.Machine

/-- A bit is implemented when some field has it. -/
theorem getLsbD_implementedBits {c : Config} {r : Register} {i : Nat} (hi : i < 32) :
    (implementedBits c r).getLsbD i = true ↔ ∃ f ∈ r.fields, fieldHas (fieldDesc c f) i := by
  rw [implementedBits, BitVec.getLsbD_not, decide_eq_true hi, Bool.true_and, Bool.not_eq_true', ← Bool.not_eq_true,
    getLsbD_reservedBits hi]
  simp [regDescOf]

/-! ## Reads -/

theorem within_packField {c : Config} {r : Register} {f : FieldId} (hf : f ∈ r.fields) (x : Word) :
    Within (implementedBits c r) (packField x (fieldDesc c f).lo.toNat (fieldDesc c f).width.toNat) := by
  refine within_iff.mpr fun i hi => (getLsbD_implementedBits (BitVec.lt_of_getLsbD hi)).mpr ⟨f, hf, ?_⟩
  simp only [getLsbD_packField, Bool.and_eq_true, decide_eq_true_eq] at hi
  obtain ⟨⟨_, hlo⟩, hwidth, _⟩ := hi
  exact ⟨hlo, by omega⟩

theorem within_foldl_or {α : Type} {m : Word} {g : α → Word} : ∀ (l : List α) (x : Word), Within m x →
    (∀ a ∈ l, Within m (g a)) → Within m (l.foldl (fun acc a => acc ||| g a) x)
  | [], _, hx, _ => hx
  | a :: l, x, hx, hl => by
    obtain ⟨ha, hl⟩ := List.forall_mem_cons.mp hl
    exact within_foldl_or l (x ||| g a) (hx.or ha) hl

theorem within_packedFields (r : Register) (s : State) : Within (implementedBits s.cfg r) (packedFields r.fields s) :=
  within_foldl_or r.fields 0 within_zero fun _ hf => within_packField hf _

/-! ## Writes -/

/-- A field's sub-value comes from implemented bits (R116). -/
theorem fieldSub_and_implementedBits {c : Config} {r : Register} {f : FieldId} (hf : f ∈ r.fields) (v : Word) :
    fieldSub c f (v &&& implementedBits c r) = fieldSub c f v := by
  refine BitVec.eq_of_getLsbD_eq fun i _ => ?_
  rw [getLsbD_extractField, getLsbD_extractField, BitVec.getLsbD_and]
  by_cases hwidth : i < (fieldDesc c f).width.toNat
  · cases hv : v.getLsbD ((fieldDesc c f).lo.toNat + i) with
    | false => rw [Bool.false_and]
    | true =>
      have hbit : (implementedBits c r).getLsbD ((fieldDesc c f).lo.toNat + i) = true :=
        (getLsbD_implementedBits (BitVec.lt_of_getLsbD hv)).mpr ⟨f, hf, Nat.le_add_right .., Nat.add_lt_add_left hwidth _⟩
      rw [hbit, Bool.and_true]
  · simp [hwidth]

theorem writeSteps_congr {c : Config} {v x : Word} : ∀ {fs : List FieldId} {s : State}, s.cfg = c →
    (∀ f ∈ fs, fieldSub c f v = fieldSub c f x) → fs.foldl (writeStep v) s = fs.foldl (writeStep x) s
  | [], _, _, _ => rfl
  | f :: fs, s, hcfg, h => by
    obtain ⟨hf, hfs⟩ := List.forall_mem_cons.mp h
    have hstep : writeStep v s f = writeStep x s f := congrArg (applyField f · s) (hcfg ▸ hf)
    rw [List.foldl_cons, List.foldl_cons, hstep, writeSteps_congr ((advances_writeStep false x s f).cfg.trans hcfg) hfs]

/-- The control Register of a channel has the field that its hook looks at (R451). -/
theorem chStart_mem_of_mem_registersOf {c : Config} {r : Register} (hr : r ∈ registersOf c .dma) (hge : 0x100 ≤ r.off)
    (hmod : (r.off - 0x100) % 0x20 = 0xC) : ∃ n, .chStart n ∈ r.fields := by
  obtain rfl | hr := List.mem_cons.mp hr
  · simp [regAt] at hge
  obtain ⟨n, _, hr⟩ := List.mem_flatMap.mp hr
  simp only [List.mem_cons, List.not_mem_nil, or_false] at hr
  obtain rfl | rfl | rfl | rfl := hr
  case inr.inr.inr => exact ⟨n, by simp [regAt]⟩
  all_goals
    simp only [regAt, chOff] at hmod
    omega

/-- The hook of a write sees implemented bits only. -/
theorem hookAction_and_implementedBits {c : Config} {sel : Bool} {w : Window} {off : Nat} {r : Register}
    (h : lookup c sel w false off = some r) (v : Word) (s : State) :
    hookAction w off (v &&& implementedBits c r) s = hookAction w off v s := by
  cases w with
  | gpio | uart | uart16550 | spi | i2c | timer | intc => rfl
  | dma =>
    simp only [hookAction]
    by_cases hctrl : 0x100 ≤ off ∧ (off - 0x100) % 0x20 = 0xC
    · obtain ⟨hge, hmod⟩ := hctrl
      obtain ⟨_, hmem, rfl, _⟩ := lookup_eq_some_iff.mp h
      obtain ⟨n, hn⟩ := chStart_mem_of_mem_registersOf hmem hge hmod
      have hbit : (implementedBits c r).getLsbD 1 = true :=
        (getLsbD_implementedBits (by decide)).mpr ⟨.chStart n, hn, by simp [fieldHas, fieldDesc, writeOnly]⟩
      rw [BitVec.getLsbD_and, hbit, Bool.and_true]
    · have hno {p : Prop} : ¬(0x100 ≤ off ∧ (off - 0x100) % 0x20 = 0xC ∧ p) := fun ⟨hge, hmod, _⟩ => hctrl ⟨hge, hmod⟩
      rw [if_neg hno, if_neg hno]

/-- A matched write, once (R147, R150). -/
theorem rbWrite_of_lookup {w : Window} {off : Nat} {s : State} {r : Register} (h : lookup s.cfg s.u16.mapSel w false off = some r)
    (v : Word) : rbWrite w off v s = andThen (hookAction w off v (r.fields.foldl (writeStep v) s)) (hook w) := by
  simp only [rbWrite, h]

/-- Settles O11: a read by `within_packedFields`; a write because fields and hook see the implemented bits only. -/
theorem reservedBitsReadZeroAndAreDiscarded : Obligations.ReservedBitsReadZeroAndAreDiscarded := by
  refine fun w off v s r => ⟨fun h t x hread hx => ?read, fun h => ?write⟩
  case read =>
    obtain rfl := Host.Outcome.next.inj ((rbRead_of_lookup h).symm.trans hread)
    obtain rfl := Result.word.inj hx
    exact within_packedFields r s
  case write =>
    have hsteps : r.fields.foldl (writeStep (v &&& implementedBits s.cfg r)) s = r.fields.foldl (writeStep v) s :=
      writeSteps_congr rfl fun f hf => fieldSub_and_implementedBits hf v
    change rbWrite w off.toNat v s = rbWrite w off.toNat _ s
    rw [rbWrite_of_lookup h, rbWrite_of_lookup h, hsteps, hookAction_and_implementedBits h]

end Sys2Proof.Machine
end

section
/-! Round trips (R154): writing back the word read leaves what every cell of the Register shows. -/

namespace Sys2Proof.Machine

/-! ## The offsets of R154 -/

theorem lookup_of_mem_registersOf {c : Config} (hc : c.Legal) {sel isRead : Bool} {w : Window} {off : Nat} {r : Register}
    (hr : r ∈ registersOf c w) (hoff : r.off = off) (hans : r.answers sel isRead = true) :
    lookup c sel w isRead off = some r := by
  obtain ⟨hlt, hmod, hsize⟩ := off_of_mem_registersOf hc hr
  exact lookup_eq_some_iff.mpr ⟨by omega, hr, hoff, hans⟩

/-- At every offset R154 lists stands a Register that answers writes. -/
theorem exists_lookup_of_storageOffset {c : Config} (hc : c.Legal) {sel : Bool} {w : Window} {off : Nat}
    (h : storageOffset c sel w off) : ∃ r, lookup c sel w false off = some r := by
  have found {r : Register} (hr : r ∈ registersOf c w) (hoff : r.off = off) (hans : r.answers sel false = true) :
      ∃ r, lookup c sel w false off = some r := ⟨r, lookup_of_mem_registersOf hc hr hoff hans⟩
  cases w with
  | gpio =>
    obtain rfl | ⟨hext, rfl | rfl | rfl | rfl⟩ := h
    · exact found (r := regAt 0x04 [.gpioDir]) (by simp [registersOf]) rfl rfl
    · exact found (r := regAt 0x08 [.gpioIe]) (by simp [registersOf, hext]) rfl rfl
    · exact found (r := regAt 0x10 [.gpioIt]) (by simp [registersOf, hext]) rfl rfl
    · exact found (r := regAt 0x14 [.gpioIp]) (by simp [registersOf, hext]) rfl rfl
    · exact found (r := regAt 0x18 [.gpioEdge]) (by simp [registersOf, hext]) rfl rfl
  | uart => obtain rfl | rfl := h <;> exact ⟨_, rfl⟩
  | uart16550 =>
    obtain rfl | rfl | ⟨rfl, rfl⟩ := h
    · cases sel <;> exact ⟨_, rfl⟩
    · exact ⟨_, rfl⟩
    · exact ⟨_, rfl⟩
  | spi => obtain rfl := h; exact ⟨_, rfl⟩
  | i2c => obtain rfl | rfl := h <;> exact ⟨_, rfl⟩
  | timer =>
    obtain rfl | rfl | ⟨k, hk, rfl⟩ := h
    · exact found (r := regAt 0x08 [.timerLimit]) (by simp [registersOf]) rfl rfl
    · exact found (r := regAt 0x0C [.timerPrescaler]) (by simp [registersOf]) rfl rfl
    · exact found (cmpTarget_mem_registersOf hk) rfl rfl
  | dma =>
    obtain rfl | ⟨n, hn, rfl | rfl | rfl⟩ := h
    · exact found (r := regAt 0x00 [.dmaEn]) (by simp [registersOf]) rfl rfl
    · exact found (r := regAt (chOff n 0x0) [.chSrc n]) (mem_registersOf_dma hn (by simp)) rfl rfl
    · exact found (r := regAt (chOff n 0x4) [.chDst n]) (mem_registersOf_dma hn (by simp)) rfl rfl
    · exact found (r := regAt (chOff n 0x8) [.chCount n]) (mem_registersOf_dma hn (by simp)) rfl rfl
  | intc =>
    obtain rfl | ⟨n, hn, rfl⟩ := h
    · exact found (r := regAt 0x00 [.intcEnable]) (by simp [registersOf]) rfl rfl
    · exact found (intcPrio_mem_registersOf hn) rfl rfl

/-! ## Writing back 0 -/

/-- A cell given 0 shows 0, or, when it is a divisor, what it showed (R357, R406, R428). -/
theorem fieldValue_applyField_zero {f : FieldId} (hcell : f.isCell = true) (s : State) :
    fieldValue f (applyField f 0 s) = 0 ∨ fieldValue f (applyField f 0 s) = fieldValue f s := by
  cases f with
  | uartDiv | i2cDiv | timerPrescaler => exact .inr rfl
  | cmpTarget k =>
    simp only [applyField, fieldValue]
    cases hc : cmpAt s k with
    | none => exact .inr (by simp only [modifyCmp, hc])
    | some c => exact .inl (by rw [cmpAt_modifyCmp _ hc]; rfl)
  | chSrc n | chDst n | chCount n =>
    simp only [applyField, fieldValue]
    cases hc : chanAt s n with
    | none => exact .inr (by simp only [modifyChan, hc])
    | some c => exact .inl (by rw [chanAt_modifyChan _ hc]; rfl)
  | intcPrio n =>
    have hcases : prioAt (applyField (.intcPrio n) 0 s) n = none ∨ prioAt (applyField (.intcPrio n) 0 s) n = some 0 := by
      simp only [prioAt, applyField, List.getElem?_set]
      grind
    simp only [fieldValue]
    obtain h | h := hcases <;> rw [h] <;> exact .inl rfl
  | gpioDir | gpioIe | gpioIt | gpioIp | gpioEdge | uartTxEn | uartRxEn | uartTxIe | uartRxIe | uartOvrIe | uartRxTrig
  | uartTxTrig | dll | dlh | erbfi | etbei | elsi | lcr | spiEn | spiLoopback | spiMode | spiTxIe | spiRxIe | spiOvrIe
  | spiRxTrig | spiTxTrig | i2cEn | i2cStart | i2cStop | i2cAck | i2cTxIe | i2cRxIe | i2cOvrIe | i2cSlaveAddr | i2cRxTrig
  | i2cTxTrig | timerLimit | dmaEn | intcEnable => exact .inl rfl
  | _ => cases hcell

/-- The Registers of R154 hold one field, or are one of the four control words. -/
theorem fields_of_cells {c : Config} {w : Window} {r : Register} (hr : r ∈ registersOf c w)
    (hcells : r.fields.all FieldId.isCell = true) :
    (∃ f, r.fields = [f]) ∨ r.fields ∈ [uartControlFields, ierFields, spiControlFields, i2cControlFields] := by
  have h : ∀ r ∈ registersOf c w, r.fields.all FieldId.isCell = true →
      r.fields.length = 1 ∨ r.fields ∈ [uartControlFields, ierFields, spiControlFields, i2cControlFields] := by
    cases w with
    | gpio =>
      rw [registersOf]
      cases c.gpioExt <;> decide
    | uart | uart16550 | spi | i2c => rw [registersOf]; decide
    | timer =>
      refine List.forall_mem_append.mpr ⟨by decide, List.forall_mem_flatMap.mpr fun k _ => ?_⟩
      simp [regAt, FieldId.isCell]
    | dma =>
      refine List.forall_mem_cons.mpr ⟨by decide, List.forall_mem_flatMap.mpr fun k _ => ?_⟩
      simp [regAt, FieldId.isCell]
    | intc => exact List.forall_mem_append.mpr ⟨by decide, List.forall_mem_map.mpr fun n _ _ => .inl rfl⟩
  exact (h r hr hcells).imp_left List.length_eq_one_iff.mp

/-- A Register of cells that reads 0 and is given 0 reads 0. -/
theorem packedFields_writeSteps_zero {c : Config} {w : Window} {r : Register} {s : State} (hr : r ∈ registersOf c w)
    (hcells : ∀ f ∈ r.fields, f.isCell = true) (hzero : packedFields r.fields s = 0) :
    packedFields r.fields (r.fields.foldl (writeStep 0) s) = 0 := by
  obtain ⟨f, hf⟩ | hf := fields_of_cells hr (List.all_eq_true.mpr hcells)
  · rw [hf] at hcells hzero ⊢
    have hstep : writeStep 0 s f = applyField f 0 s := congrArg (applyField f · s) (by simp [extractField])
    have hcfg : (applyField f 0 s).cfg = s.cfg := hstep ▸ (advances_writeStep false 0 s f).cfg
    simp only [packedFields, List.foldl_cons, List.foldl_nil, hstep, hcfg] at hzero ⊢
    obtain h | h := fieldValue_applyField_zero (hcells f List.mem_cons_self) s <;> rw [h]
    · simp [packField]
    · exact hzero
  · simp only [List.mem_cons, List.not_mem_nil, or_false] at hf
    obtain hf | hf | hf | hf := hf <;> rw [hf]
    · simp [writeSteps_uartControl, packedFields_uartControl, uartControlWord, setUartControl, flagAt, fieldAt, boolWord]
    · simp [writeSteps_ier, packedFields_ier, ierWord, flagAt, boolWord]
    · simp [writeSteps_spiControl, packedFields_spiControl, spiControlWord, setSpiControl, flagAt, fieldAt, boolWord]
    · simp [writeSteps_i2cControl, packedFields_i2cControl, i2cControlWord, setI2cControl, flagAt, fieldAt, boolWord]

/-- Writing back what it reads leaves what a storage Register reads. -/
theorem StorageRegister.packedFields_writeBack {w : Window} {off : BitVec 12} {r : Register} {s : State}
    (hreg : StorageRegister w off r s) (hr : r ∈ registersOf s.cfg w) :
    packedFields r.fields (r.fields.foldl (writeStep (packedFields r.fields s)) s) = packedFields r.fields s := by
  have hmask : packedFields r.fields s &&& implementedBits s.cfg r = packedFields r.fields s :=
    (within_packedFields r s).and_mask_eq
  have hcfg := (advances_writeSteps false (packedFields r.fields s) r.fields s).cfg
  by_cases hzero : packedFields r.fields s = 0
  · rw [hzero]
    exact packedFields_writeSteps_zero hr hreg.cells hzero
  · rw [packedFields_of_shown hcfg (hreg.shown _ (hmask.symm ▸ hzero)), hmask]

theorem KeepsCells.packedFields {s t : State} (h : KeepsCells s t) {fs : List FieldId} (hcells : ∀ f ∈ fs, f.isCell = true) :
    Machine.packedFields fs t = Machine.packedFields fs s := by
  refine List.foldl_ext _ _ _ fun acc f hf => ?_
  rw [h.value f (hcells f hf), h.cfg]

/-- A write of a storage Register completes and keeps what its fields were given. -/
theorem StorageRegister.busWrite_keepsCells {w : Window} {off : BitVec 12} {r : Register} {s : State}
    (hreg : StorageRegister w off r s) (v : Word) :
    ∃ t, Machine.busWrite w off v s = .next t ∧ KeepsCells (r.fields.foldl (writeStep v) s) t := by
  obtain ⟨u, haction, hkeeps⟩ := hreg.hookKeeps v (r.fields.foldl (writeStep v) s)
  refine ⟨_, ?_, hkeeps.trans (keepsCells_hook w u)⟩
  rw [hreg.busWrite, haction]
  rfl

/-- Settles O12: the hook after the write leaves the cells, and the cells show what they showed. -/
theorem storageRoundTripIsStable : Obligations.StorageRoundTripIsStable := by
  intro w off x s s1 hinv hoff hread hx
  obtain ⟨r, hr⟩ := exists_lookup_of_storageOffset hinv.1 hoff
  have storage {t : State} (hinv : t.Inv) (hcfg : t.cfg = s.cfg) (hsel : t.u16.mapSel = s.u16.mapSel) :
      StorageRegister w off r t :=
    storageRegister_of_storageOffset hinv (by rwa [hcfg, hsel]) (by rwa [hcfg, hsel])
  have hread' := (storage hinv rfl rfl).busRead
  obtain rfl := Host.Outcome.next.inj (hread'.symm.trans hread)
  obtain rfl := Result.word.inj hx
  have hkeeps1 : KeepsCells s (ret (.word (packedFields r.fields s)) s) := keepsCells_of_windowSame rfl (windowSame_ret · _ s)
  have hinv1 := (exec_advances _ _ _ hread).inv hinv
  generalize ret (.word (packedFields r.fields s)) s = s1 at *
  have hreg1 := storage hinv1 hkeeps1.cfg hkeeps1.mapSel
  obtain ⟨s2, hwrite, hkeeps2⟩ := hreg1.busWrite_keepsCells (packedFields r.fields s)
  have hadv2 := exec_advances _ _ _ hwrite
  have hsel2 := hkeeps2.mapSel.trans (mapSel_writeSteps _ r.fields s1 hreg1.cells)
  have hreg2 := storage (hadv2.inv hinv1) (hadv2.cfg.trans hkeeps1.cfg) (hsel2.trans hkeeps1.mapSel)
  refine ⟨s2, _, hwrite, hreg2.busRead, congrArg Result.word ?_⟩
  have hmem : r ∈ registersOf s1.cfg w := hkeeps1.cfg ▸ mem_registersOf_of_lookup hr
  rw [hkeeps2.packedFields hreg1.cells, ← hkeeps1.packedFields hreg1.cells, hreg1.packedFields_writeBack hmem]

end Sys2Proof.Machine
end

section
/-! Unmatched accesses (R115, R144, R148): where the bank has no Register, the decoder has no row, or one whose Register this
block was built without (R117, R344). -/

namespace Sys2Proof.Machine

theorem lookup_of_out_of_range {c : Config} {sel isRead : Bool} {w : Window} {off : Nat}
    (h : off % 4 ≠ 0 ∨ 0x1000 ≤ off ∨ windowSize c w ≤ off) : lookup c sel w isRead off = none :=
  if_pos (by tauto)

/-! ## Both directions at once -/

/-- The row a bus access reaches. -/
abbrev busRow (isRead sel : Bool) (w : Window) (off : BitVec 12) (v : Word) : Option Instr :=
  if isRead then readRow sel w off else writeRow sel w off v

/-- What an unmatched access does (R144, R148). -/
abbrev unmatchedAccess (isRead : Bool) (off : Nat) (s : State) : Host.Outcome State Fault Refusal :=
  if isRead then unmatchedRead off s else unmatchedWrite off s

/-! ## Indexed offsets as numbers (R117) -/

section
variable {off : BitVec 12}

theorem toNat_of_inCmpBlock (h : inCmpBlock off = true) :
    off.toNat = cmpOff (slotOf off - 2).toNat (off.extractLsb' 0 4).toNat := by
  simp only [inCmpBlock, slotOf, Bool.and_eq_true, beq_iff_eq, decide_eq_true_eq, ← BitVec.toNat_inj,
    BitVec.extractLsb'_toNat, Nat.shiftRight_eq_div_pow, BitVec.ofNat_eq_ofNat, BitVec.toNat_ofNat] at h
  simp only [cmpOff, slotOf, BitVec.toNat_sub, BitVec.extractLsb'_toNat, Nat.shiftRight_eq_div_pow, BitVec.ofNat_eq_ofNat,
    BitVec.toNat_ofNat]
  omega

theorem toNat_of_inChBlock (h : (off.extractLsb' 8 4 == 1) = true) :
    off.toNat = chOff (off.extractLsb' 5 3).toNat (off.extractLsb' 0 5).toNat := by
  simp only [beq_iff_eq, ← BitVec.toNat_inj, BitVec.extractLsb'_toNat, Nat.shiftRight_eq_div_pow, BitVec.ofNat_eq_ofNat,
    BitVec.toNat_ofNat] at h
  simp only [chOff, BitVec.extractLsb'_toNat, Nat.shiftRight_eq_div_pow]
  omega

theorem toNat_of_inPrioTable (h : inPrioTable off = true) : off.toNat = prioOff (off.extractLsb' 2 5).toNat := by
  simp only [inPrioTable, Bool.and_eq_true, beq_iff_eq, ← BitVec.toNat_inj, BitVec.extractLsb'_toNat,
    Nat.shiftRight_eq_div_pow, BitVec.ofNat_eq_ofNat, BitVec.toNat_ofNat] at h
  simp only [prioOff, BitVec.extractLsb'_toNat, Nat.shiftRight_eq_div_pow]
  omega

end

theorem cmpCtrl_mem_registersOf {c : Config} {k : Nat} (hk : k < c.nCmp) :
    regAt (cmpOff k 4) [.cmpEn k, .cmpPend k] ∈ registersOf c .timer :=
  List.mem_append_right _ (List.mem_flatMap.mpr ⟨k, List.mem_range.mpr hk, by simp⟩)

/-! ## Rows without a Register -/

section
variable {isRead : Bool} {off : BitVec 12} {v : Word} {i : Instr} {s : State}

/-- In a block with the GPIO extension, no row of the windows without an index lacks its Register. -/
theorem lookup_ne_none_of_row {c : Config} {sel : Bool} {w : Window}
    (hw : w = .uart ∨ w = .uart16550 ∨ w = .spi ∨ w = .i2c ∨ (w = .gpio ∧ c.gpioExt = true))
    (h : busRow isRead sel w off v = some i) : lookup c sel w isRead off.toNat ≠ none := by
  obtain ⟨_, _, ext, _, _, _, _, _, _, _, _⟩ := c
  obtain rfl | rfl | rfl | rfl | ⟨rfl, rfl : ext = true⟩ := hw <;> cases isRead
  all_goals
    simp only [busRow, readRow, writeRow, readUart, writeUart, readUart16550, writeUart16550, readSpi, writeSpi, readI2c,
      writeI2c, readGpio, writeGpio, if_true, Bool.false_eq_true, if_false] at h
    split at h
    rotate_right
    cases h
  all_goals
    next heq =>
    rw [heq]
    cases sel <;> exact nofun

/-- Without the extension, five rows of the GPIO window lack theirs (R344). -/
theorem exec_row_of_not_gpioExt {sel : Bool} (hext : s.cfg.gpioExt = false) (h : busRow isRead sel .gpio off v = some i)
    (hnone : lookup s.cfg sel .gpio isRead off.toNat = none) : exec i s = unmatchedAccess isRead off.toNat s := by
  have hdata : lookup s.cfg sel .gpio isRead 0x00 ≠ none := by
    cases isRead <;> simp [lookup, registersOf, windowSize, hext, regAt, MapWhen.active]
  have hdir : lookup s.cfg sel .gpio isRead 0x04 ≠ none := by
    cases isRead <;> simp [lookup, registersOf, windowSize, hext, regAt, MapWhen.active]
  have hno : ¬s.cfg.gpioExt = true := by rw [hext]; exact Bool.false_ne_true
  cases isRead
  all_goals
    simp only [busRow, readRow, writeRow, readGpio, writeGpio, if_true, Bool.false_eq_true, if_false] at h
    split at h
    case h_1 heq => exact absurd (heq ▸ hnone) hdata
    case h_2 heq => exact absurd (heq ▸ hnone) hdir
    case h_8 => cases h
    all_goals
      next heq =>
      cases h
      rw [heq]
      exact if_neg hno

/-- Where no Register answers none stands that would. -/
theorem absent_of_lookup_eq_none {sel : Bool} {w : Window} {n : Nat} {r : Register} (hc : s.cfg.Legal)
    (hnone : lookup s.cfg sel w isRead n = none) (hr : r ∈ registersOf s.cfg w) (hans : r.answers sel isRead = true) :
    n ≠ r.off := by
  rintro rfl
  rw [lookup_of_mem_registersOf hc hr rfl hans] at hnone
  cases hnone

/-- The rows of a compare channel the block does not have lack their Registers (R117). -/
theorem exec_row_unmatched_timer {sel : Bool} (hc : s.cfg.Legal) (h : busRow isRead sel .timer off v = some i)
    (hnone : lookup s.cfg sel .timer isRead off.toNat = none) : exec i s = unmatchedAccess isRead off.toNat s := by
  have absent {r : Register} := absent_of_lookup_eq_none (r := r) hc hnone
  have hcmp {k x : Nat} (hx : x = 0 ∨ x = 4) (hoff : off.toNat = cmpOff k x) : cmpAt s k = none := by
    refine cmpAt_none (Nat.le_of_not_lt fun hk => ?_)
    obtain rfl | rfl := hx
    · exact absent (cmpTarget_mem_registersOf hk) (by cases isRead <;> rfl) hoff
    · exact absent (cmpCtrl_mem_registersOf hk) (by cases isRead <;> rfl) hoff
  cases isRead
  all_goals
    simp only [busRow, readRow, writeRow, readTimer, writeTimer, if_true, Bool.false_eq_true, if_false] at h
    split at h
    case h_1 heq => exact absurd heq (absent (r := regAt 0x00 [.timerEn, .timerOneshot, .timerOvfIe]) (by simp [registersOf]) rfl)
    case h_2 heq => exact absurd heq (absent (r := regAt 0x04 [.timerValue]) (by simp [registersOf]) rfl)
    case h_3 heq => exact absurd heq (absent (r := regAt 0x08 [.timerLimit]) (by simp [registersOf]) rfl)
    case h_4 heq => exact absurd heq (absent (r := regAt 0x0C [.timerPrescaler]) (by simp [registersOf]) rfl)
    case h_5 heq => exact absurd heq (absent (r := regAt 0x10 [.timerOvf]) (by simp [registersOf]) rfl)
    case h_6 =>
      split at h
      case isFalse => cases h
      case isTrue hblock =>
      have hoff := toNat_of_inCmpBlock hblock
      split at h
      case h_3 => cases h
      all_goals
        next hlow =>
        cases h
        rw [hlow] at hoff
        have hnone := hcmp (by decide) hoff
        rw [hoff]
        simp only [exec, execRdTimerCmpTarget, execWrTimerCmpTarget, execRdTimerCmpCtrl, execWrTimerCmpCtrl, hnone]
        rfl

/-- The rows of a channel the block does not have lack their Registers (R117). -/
theorem exec_row_unmatched_dma {sel : Bool} (hc : s.cfg.Legal) (h : busRow isRead sel .dma off v = some i)
    (hnone : lookup s.cfg sel .dma isRead off.toNat = none) : exec i s = unmatchedAccess isRead off.toNat s := by
  have absent {r : Register} := absent_of_lookup_eq_none (r := r) hc hnone
  have hchan {n x : Nat} (hx : x = 0x0 ∨ x = 0x4 ∨ x = 0x8 ∨ x = 0xC) (hoff : off.toNat = chOff n x) : chanAt s n = none := by
    refine chanAt_none (Nat.le_of_not_lt fun hn => ?_)
    have habsent {fs : List FieldId} (hr : regAt (chOff n x) fs ∈ _) :=
      absent (mem_registersOf_dma hn hr) (by cases isRead <;> rfl) hoff
    obtain rfl | rfl | rfl | rfl := hx
    · exact habsent (fs := [.chSrc n]) (by simp)
    · exact habsent (fs := [.chDst n]) (by simp)
    · exact habsent (fs := [.chCount n]) (by simp)
    · exact habsent (fs := [.chEn n, .chStart n, .chIe n, .chIf n]) (by simp)
  cases isRead
  all_goals
    simp only [busRow, readRow, writeRow, readDma, writeDma, if_true, Bool.false_eq_true, if_false] at h
    split at h
    next hzero => exact absurd (congrArg BitVec.toNat (eq_of_beq hzero)) (absent (r := regAt 0x00 [.dmaEn]) (.head _) rfl)
    next =>
      split at h
      case isFalse => cases h
      case isTrue hblock =>
      have hoff := toNat_of_inChBlock hblock
      split at h
      case h_5 => cases h
      all_goals
        next hlow =>
        cases h
        rw [hlow] at hoff
        have hnone := hchan (by decide) hoff
        rw [hoff]
        simp only [exec, execRdDmaChSrc, execWrDmaChSrc, execRdDmaChDst, execWrDmaChDst, execRdDmaChCount, execWrDmaChCount,
          execRdDmaChCtrl, execWrDmaChCtrl, hnone]
        rfl

/-- The rows of a source the block does not have lack their Register (R117). -/
theorem exec_row_unmatched_intc {sel : Bool} (hc : s.cfg.Legal) (h : busRow isRead sel .intc off v = some i)
    (hnone : lookup s.cfg sel .intc isRead off.toNat = none) : exec i s = unmatchedAccess isRead off.toNat s := by
  have absent {r : Register} := absent_of_lookup_eq_none (r := r) hc hnone
  have hprio {n : Nat} (hoff : off.toNat = prioOff n) : prioAt s n = none :=
    prioAt_none (Nat.le_of_not_lt fun hn => absent (intcPrio_mem_registersOf hn) (by cases isRead <;> rfl) hoff)
  cases isRead
  all_goals
    simp only [busRow, readRow, writeRow, readIntc, writeIntc, if_true, Bool.false_eq_true, if_false] at h
    split at h
    case h_1 heq => exact absurd heq (absent (r := regAt 0x00 [.intcEnable]) (by simp [registersOf]) rfl)
    case h_2 heq => exact absurd heq (absent (r := regAt 0x04 [.intcPending]) (by simp [registersOf]) rfl)
    case h_3 =>
      split at h
      case isFalse => cases h
      case isTrue htable =>
        cases h
        have hoff := toNat_of_inPrioTable htable
        have hnone := hprio hoff
        rw [hoff]
        simp only [exec, execRdIntcPriority, execWrIntcPriority, hnone]
        rfl

theorem exec_row_unmatched {sel : Bool} {w : Window} (hc : s.cfg.Legal) (h : busRow isRead sel w off v = some i)
    (hnone : lookup s.cfg sel w isRead off.toNat = none) : exec i s = unmatchedAccess isRead off.toNat s := by
  cases w with
  | uart | uart16550 | spi | i2c => exact absurd hnone (lookup_ne_none_of_row (by simp) h)
  | gpio =>
    cases hext : s.cfg.gpioExt with
    | false => exact exec_row_of_not_gpioExt hext h hnone
    | true => exact absurd hnone (lookup_ne_none_of_row (by simp [hext]) h)
  | timer => exact exec_row_unmatched_timer hc h hnone
  | dma => exact exec_row_unmatched_dma hc h hnone
  | intc => exact exec_row_unmatched_intc hc h hnone

end

/-! ## Unmatched accesses of the bus and of the bank -/

section
variable {w : Window} {s : State}

theorem toNat_setWidth_offset (off : BitVec 12) : (off.setWidth 32).toNat = off.toNat := by
  rw [BitVec.toNat_setWidth]
  omega

theorem rbRead_of_lookup_none {off : Nat} (h : lookup s.cfg s.u16.mapSel w true off = none) :
    rbRead w off s = unmatchedRead off s := by
  simp only [rbRead, h]

theorem rbWrite_of_lookup_none {off : Nat} (h : lookup s.cfg s.u16.mapSel w false off = none) (v : Word) :
    rbWrite w off v s = unmatchedWrite off s := by
  simp only [rbWrite, h]

theorem busRead_unmatched {off : BitVec 12} (hc : s.cfg.Legal) (h : lookup s.cfg s.u16.mapSel w true off.toNat = none) :
    busRead w off s = unmatchedRead off.toNat s := by
  cases hrow : readRow s.u16.mapSel w off with
  | some i => exact (busRead_of_row hrow).trans (exec_row_unmatched (isRead := true) (v := 0) hc hrow h)
  | none =>
    rw [busRead, decodeRead, hrow, Option.getD_none]
    exact (congrArg (rbRead w · s) (toNat_setWidth_offset off)).trans (rbRead_of_lookup_none h)

theorem busWrite_unmatched {off : BitVec 12} (hc : s.cfg.Legal) (h : lookup s.cfg s.u16.mapSel w false off.toNat = none)
    (v : Word) : busWrite w off v s = unmatchedWrite off.toNat s := by
  cases hrow : writeRow s.u16.mapSel w off v with
  | some i => exact (busWrite_of_row hrow).trans (exec_row_unmatched (isRead := false) hc hrow h)
  | none =>
    rw [busWrite, decodeWrite, hrow, Option.getD_none]
    exact (congrArg (rbWrite w · v s) (toNat_setWidth_offset off)).trans (rbWrite_of_lookup_none h v)

end

/-- Settles O8. -/
theorem unmatchedReadReturnsZero : Obligations.UnmatchedReadReturnsZero := fun _ _ _ =>
  ⟨lookup_of_out_of_range, rbRead_of_lookup_none, fun hc _ h => busRead_unmatched hc h⟩

/-- Settles O9. -/
theorem unmatchedWriteIsIgnored : Obligations.UnmatchedWriteIsIgnored := fun _ _ v _ =>
  ⟨lookup_of_out_of_range, fun h => rbWrite_of_lookup_none h v, fun hc _ h => busWrite_unmatched hc h v⟩

end Sys2Proof.Machine
end

section
/-! The register rules refine the generic bank (R140, R143, R147): a Register holds cells, and then is one of R154's, or it is
one of the nineteen below. -/

namespace Sys2Proof.Machine

/-! ## The Registers that are more than cells -/

/-- The Registers with a field that is computed, a latch, a queue's end, or component state beyond R154. -/
inductive EffectRegister (c : Config) : Window → Register → Prop
  | gpioData : EffectRegister c .gpio (regAt 0x00 [.gpioData])
  | gpioIs (hext : c.gpioExt = true) : EffectRegister c .gpio (regAt 0x0C [.gpioIs])
  | uartData : EffectRegister c .uart (regAt 0x00 [.data .uart])
  | uartStatus : EffectRegister c .uart (regAt 0x04 (statusFields .uart))
  | rbr : EffectRegister c .uart16550 ⟨0x00, true, false, .sel0, [.rbr]⟩
  | thr : EffectRegister c .uart16550 ⟨0x00, false, true, .sel0, [.thr]⟩
  | iir : EffectRegister c .uart16550 ⟨0x08, true, false, .always, [.iirNopend, .iirId, .iirFifoEn]⟩
  | fcr : EffectRegister c .uart16550 ⟨0x08, false, true, .always, [.fcrFifoEn, .fcrRxClr, .fcrTxClr, .fcrRxTrig]⟩
  | lsr : EffectRegister c .uart16550 (regAt 0x14 [.lsrDr, .lsrOe, .lsrThre, .lsrTemt])
  | spiData : EffectRegister c .spi (regAt 0x04 [.data .spi])
  | spiStatus : EffectRegister c .spi (regAt 0x08 (statusFields .spi))
  | i2cData : EffectRegister c .i2c (regAt 0x04 [.data .i2c])
  | i2cStatus : EffectRegister c .i2c (regAt 0x08 (statusFields .i2c))
  | timerControl : EffectRegister c .timer (regAt 0x00 [.timerEn, .timerOneshot, .timerOvfIe])
  | timerValue : EffectRegister c .timer (regAt 0x04 [.timerValue])
  | timerStatus : EffectRegister c .timer (regAt 0x10 [.timerOvf])
  | cmpCtrl (k : Nat) (hk : k < c.nCmp) : EffectRegister c .timer (regAt (cmpOff k 4) [.cmpEn k, .cmpPend k])
  | chCtrl (n : Nat) (hn : n < c.nDmaCh) :
      EffectRegister c .dma (regAt (chOff n 0xC) [.chEn n, .chStart n, .chIe n, .chIf n])
  | intcPending : EffectRegister c .intc (regAt 0x04 [.intcPending])

/-- A Register of cells answers both directions, at an offset of R154. -/
structure IsStorage (c : Config) (w : Window) (r : Register) : Prop where
  writable : r.writable = true
  readable : r.readable = true
  offset   : ∀ sel, r.mapping.active sel = true → storageOffset c sel w r.off

theorem storage_or_effect {c : Config} {w : Window} {r : Register} (hr : r ∈ registersOf c w) :
    IsStorage c w r ∨ EffectRegister c w r := by
  have storage {off : Nat} {m : MapWhen} {fs : List FieldId} (h : ∀ sel, m.active sel = true → storageOffset c sel w off) :
      IsStorage c w ⟨off, true, true, m, fs⟩ ∨ EffectRegister c w ⟨off, true, true, m, fs⟩ := .inl ⟨rfl, rfl, h⟩
  have h : ∀ r ∈ registersOf c w, IsStorage c w r ∨ EffectRegister c w r := by
    cases w with
    | gpio =>
      refine List.forall_mem_append.mpr ⟨?_, ?_⟩
      · exact List.forall_mem_cons.mpr ⟨.inr .gpioData, List.forall_mem_singleton.mpr (storage fun _ _ => .inl rfl)⟩
      · split
        next hext =>
          have extension {off : Nat} {fs : List FieldId} (h : off = 0x08 ∨ off = 0x10 ∨ off = 0x14 ∨ off = 0x18) :=
            storage (off := off) (fs := fs) (m := .always) fun _ _ => .inr ⟨hext, h⟩
          simp only [List.forall_mem_cons, List.not_mem_nil, IsEmpty.forall_iff, implies_true, and_true]
          exact ⟨extension (by decide), .inr (.gpioIs hext), extension (by decide), extension (by decide), extension (by decide)⟩
        next => exact List.forall_mem_nil _
    | uart =>
      simp only [registersOf, List.forall_mem_cons, List.not_mem_nil, IsEmpty.forall_iff, implies_true, and_true]
      exact ⟨.inr .uartData, .inr .uartStatus, storage fun _ _ => .inl rfl, storage fun _ _ => .inr rfl⟩
    | uart16550 =>
      simp only [registersOf, List.forall_mem_cons, List.not_mem_nil, IsEmpty.forall_iff, implies_true, and_true]
      exact ⟨.inr .rbr, .inr .thr, storage fun sel hsel => .inr (.inr ⟨rfl, hsel⟩), storage fun _ _ => .inl rfl,
        storage fun _ _ => .inl rfl, .inr .iir, .inr .fcr, storage fun _ _ => .inr (.inl rfl), .inr .lsr⟩
    | spi =>
      simp only [registersOf, List.forall_mem_cons, List.not_mem_nil, IsEmpty.forall_iff, implies_true, and_true]
      exact ⟨storage fun _ _ => rfl, .inr .spiData, .inr .spiStatus⟩
    | i2c =>
      simp only [registersOf, List.forall_mem_cons, List.not_mem_nil, IsEmpty.forall_iff, implies_true, and_true]
      exact ⟨storage fun _ _ => .inl rfl, .inr .i2cData, .inr .i2cStatus, storage fun _ _ => .inr rfl⟩
    | timer =>
      simp only [registersOf, List.forall_mem_append, List.forall_mem_flatMap, List.mem_range, List.forall_mem_cons,
        List.not_mem_nil, IsEmpty.forall_iff, implies_true, and_true]
      exact ⟨⟨.inr .timerControl, .inr .timerValue, storage fun _ _ => .inl rfl, storage fun _ _ => .inr (.inl rfl),
        .inr .timerStatus⟩, fun k hk => ⟨storage fun _ _ => .inr (.inr ⟨k, hk, rfl⟩), .inr (.cmpCtrl k hk)⟩⟩
    | dma =>
      simp only [registersOf, List.forall_mem_flatMap, List.mem_range, List.forall_mem_cons,
        List.not_mem_nil, IsEmpty.forall_iff, implies_true, and_true]
      exact ⟨storage fun _ _ => .inl rfl, fun n hn => ⟨storage fun _ _ => .inr ⟨n, hn, .inl rfl⟩,
        storage fun _ _ => .inr ⟨n, hn, .inr (.inl rfl)⟩, storage fun _ _ => .inr ⟨n, hn, .inr (.inr rfl)⟩,
        .inr (.chCtrl n hn)⟩⟩
    | intc =>
      simp only [registersOf, List.forall_mem_append, List.forall_mem_map, List.mem_range, List.forall_mem_cons,
        List.not_mem_nil, IsEmpty.forall_iff, implies_true, and_true]
      exact ⟨⟨storage fun _ _ => .inl rfl, .inr .intcPending⟩, fun n hn => storage fun _ _ => .inr ⟨n, hn, rfl⟩⟩
  exact h r hr

/-! ## Reads -/

section
variable {w : Window} {off : Nat} {r : Register} {s : State}

theorem rbRead_of_not_readChanges (h : lookup s.cfg s.u16.mapSel w true off = some r)
    (hpure : r.fields.all (fun f => !f.readChanges) = true) : rbRead w off s = doneWord (packedFields r.fields s) s := by
  refine rbRead_pure h fun f hf heffect => ?_
  have hno := List.all_eq_true.mp hpure f hf
  rw [(effect_eq_sideEffect_iff _ _).mp heffect] at hno
  cases hno

theorem packField_zero (lo n : Nat) : packField 0 lo n = 0 := by simp [packField]

theorem packedFields_status (x : Serial) (s : State) :
    packedFields (statusFields x) s = statusWord s.cfg.fifoCap (portOf x s) := by
  simp [statusFields, packedFields, fieldValue, fieldDesc, computed, latch, packField_boolWord, statusWord]

theorem packedFields_lsr (s : State) : packedFields [.lsrDr, .lsrOe, .lsrThre, .lsrTemt] s = lsrWord s.u16.port := by
  simp [packedFields, fieldValue, fieldDesc, computed, packField_boolWord, lsrWord]

theorem packedFields_iir (s : State) : packedFields [.iirNopend, .iirId, .iirFifoEn] s = iirWord s := by
  have hlow : iirLow s = 6 ∨ iirLow s = 4 ∨ iirLow s = 2 ∨ iirLow s = 1 := by
    unfold iirLow
    split_ifs <;> simp
  simp only [packedFields, List.foldl_cons, List.foldl_nil, fieldValue, fieldDesc, computed, iirWord]
  obtain h | h | h | h := hlow <;> rw [h] <;> cases s.u16.fifoEn <;> rfl

theorem packedFields_timerControl (s : State) :
    packedFields [.timerEn, .timerOneshot, .timerOvfIe] s =
      flagAt s.timer.running 0 ||| flagAt s.timer.oneshot 1 ||| flagAt s.timer.ovfIe 2 := by
  simp [packedFields, fieldValue, fieldDesc, component, packField_boolWord]

theorem packedFields_cmpCtrl {k : Nat} {c : Cmp} (hc : cmpAt s k = some c) :
    packedFields [.cmpEn k, .cmpPend k] s = flagAt c.en 0 ||| flagAt c.pending 1 := by
  simp [packedFields, fieldValue, hc, fieldDesc, component, latch, packField_boolWord]

theorem packedFields_chCtrl {n : Nat} {c : DmaChannel} (hc : chanAt s n = some c) :
    packedFields [.chEn n, .chStart n, .chIe n, .chIf n] s = flagAt c.enabled 0 ||| flagAt c.ie 2 ||| flagAt c.pending 3 := by
  have hstart : packField 0#32 1 1 = 0 := packField_zero 1 1
  simp [packedFields, fieldValue, hc, fieldDesc, component, latch, writeOnly, packField_boolWord, hstart]

/-- What a data read returns is a byte (R295). -/
theorem packField_serDataRead (x : Serial) (s : State) : packField (serDataRead x s).1 0 8 = (serDataRead x s).1 := by
  cases hrx : (portOf x s).rx with
  | nil => rw [serDataRead_nil hrx]; exact packField_zero 0 8
  | cons b bs =>
    rw [serDataRead_cons hrx]
    exact (packField_setWidth b 0).trans (BitVec.shiftLeft_zero _)

/-- A snapshot has no bit above its sources (R199). -/
theorem within_snapshotFrom {n : Nat} : ∀ (ss : List Source) (i : Nat), i + ss.length ≤ n →
    Within (maskWord n) (snapshotFrom i ss)
  | [], _, _ => within_zero
  | x :: ss, i, h => by
    rw [List.length_cons] at h
    have hbit : Within (maskWord n) (boolWord x.pending <<< i) := by
      refine within_iff.mpr fun j hj => ?_
      rw [show boolWord x.pending <<< i = flagAt x.pending i from rfl, getLsbD_flagAt] at hj
      simp only [Bool.and_eq_true, decide_eq_true_eq] at hj
      obtain ⟨⟨hlt, rfl⟩, _⟩ := hj
      rw [getLsbD_maskWord, decide_eq_true hlt, decide_eq_true (by omega : j < n), Bool.and_true]
    exact hbit.or (within_snapshotFrom ss (i + 1) (by omega))

theorem packedFields_intcPending (hc : s.cfg.Legal) : packedFields [.intcPending] s = snapshot (sources .intc s) := by
  obtain ⟨_, _, _, _, _, _, _, hsrcs⟩ := hc
  have hwithin : Within (maskWord s.cfg.nIrqSrc) (snapshot (sources .intc s)) :=
    within_snapshotFrom _ 0 (by simp [sources])
  simp only [packedFields, List.foldl_cons, List.foldl_nil, fieldValue, fieldDesc, computed]
  exact BitVec.zero_or.trans ((packField_param hsrcs _).trans hwithin.and_mask_eq)

/-- A data Register pops its queue, then recomputes the line (R143, R151, R295). -/
theorem rbRead_data {x : Serial} {f : FieldId} {o : Nat} {wr : Bool} {m : MapWhen}
    (hf : f = .data x ∨ (f = .rbr ∧ x = .uart16550)) (h : lookup s.cfg s.u16.mapSel w true off = some ⟨o, true, wr, m, [f]⟩) :
    rbRead w off s = doneWord (serDataRead x s).1 (updateInterrupts w (serDataRead x s).2) := by
  rw [rbRead_of_lookup h]
  obtain rfl | ⟨rfl, rfl⟩ := hf
  all_goals exact congrArg (doneWord · _) (BitVec.zero_or.trans (packField_serDataRead _ s))

theorem readable_of_lookup {c : Config} {sel : Bool} (h : lookup c sel w true off = some r) : r.readable = true := by
  obtain ⟨_, _, _, hans⟩ := lookup_eq_some_iff.mp h
  exact (Bool.and_eq_true_iff.mp hans).2

theorem writable_of_lookup {c : Config} {sel : Bool} (h : lookup c sel w false off = some r) : r.writable = true := by
  obtain ⟨_, _, _, hans⟩ := lookup_eq_some_iff.mp h
  exact (Bool.and_eq_true_iff.mp hans).2

theorem active_of_lookup {c : Config} {sel isRead : Bool} (h : lookup c sel w isRead off = some r) :
    r.mapping.active sel = true := by
  obtain ⟨_, _, _, hans⟩ := lookup_eq_some_iff.mp h
  exact (Bool.and_eq_true_iff.mp hans).1

/-- A writable Register that a read reaches is reached by a write. -/
theorem lookup_write_of_read {c : Config} {sel : Bool} (h : lookup c sel w true off = some r) (hwrite : r.writable = true) :
    lookup c sel w false off = some r := by
  obtain ⟨hin, hmem, hoff, _⟩ := lookup_eq_some_iff.mp h
  exact lookup_eq_some_iff.mpr ⟨hin, hmem, hoff, Bool.and_eq_true_iff.mpr ⟨active_of_lookup h, hwrite⟩⟩

theorem off_of_lookup {c : Config} {sel isRead : Bool} (h : lookup c sel w isRead off = some r) : off = r.off := by
  obtain ⟨_, _, hoff, _⟩ := lookup_eq_some_iff.mp h
  exact hoff.symm

end

section
variable {w : Window} {off : BitVec 12} {r : Register} {s : State}

theorem mapSel_of_lookup_sel0 {isRead : Bool} (h : lookup s.cfg s.u16.mapSel w isRead off.toNat = some r) (hr : r.mapping = .sel0) :
    s.u16.mapSel = false := by
  have hactive := active_of_lookup h
  rw [hr] at hactive
  exact Bool.not_eq_true' _ |>.mp hactive

theorem busRead_effectRegister (hinv : s.Inv) (hr : EffectRegister s.cfg w r)
    (h : lookup s.cfg s.u16.mapSel w true off.toNat = some r) : busRead w off s = rbRead w off.toNat s := by
  have hoff := off_of_lookup h
  obtain ⟨hc, hlen, _⟩ := hinv
  obtain ⟨_, _, hpins, hcmps, _, hchans, _⟩ := id hc
  cases hr with
  | gpioData =>
    obtain rfl : off = 0x00 := BitVec.eq_of_toNat_eq hoff
    rw [rbRead_of_not_readChanges h rfl]
    have hword : packedFields [.gpioData] s = gpioDataWord s.cfg s.gpio :=
      (BitVec.zero_or.trans (packField_param hpins _)).trans (within_and_mask _).and_mask_eq
    exact congrArg (doneWord · s) hword.symm
  | gpioIs hext =>
    obtain rfl : off = 0x0C := BitVec.eq_of_toNat_eq hoff
    rw [rbRead_of_not_readChanges h rfl]
    exact (if_pos hext).trans (congrArg (doneWord · s) (BitVec.zero_or.trans (packField_param hpins _)).symm)
  | uartData =>
    obtain rfl : off = 0x00 := BitVec.eq_of_toNat_eq hoff
    rw [rbRead_data (.inl rfl) h]
    rfl
  | spiData | i2cData =>
    obtain rfl : off = 0x04 := BitVec.eq_of_toNat_eq hoff
    rw [rbRead_data (.inl rfl) h]
    rfl
  | uartStatus =>
    obtain rfl : off = 0x04 := BitVec.eq_of_toNat_eq hoff
    rw [rbRead_of_not_readChanges h rfl]
    exact congrArg (doneWord · s) (packedFields_status .uart s).symm
  | spiStatus =>
    obtain rfl : off = 0x08 := BitVec.eq_of_toNat_eq hoff
    rw [rbRead_of_not_readChanges h rfl]
    exact congrArg (doneWord · s) (packedFields_status .spi s).symm
  | i2cStatus =>
    obtain rfl : off = 0x08 := BitVec.eq_of_toNat_eq hoff
    rw [rbRead_of_not_readChanges h rfl]
    exact congrArg (doneWord · s) (packedFields_status .i2c s).symm
  | rbr =>
    obtain rfl : off = 0x00 := BitVec.eq_of_toNat_eq hoff
    have hsel := mapSel_of_lookup_sel0 h rfl
    rw [rbRead_data (.inr ⟨rfl, rfl⟩) h, busRead_of_row (i := .rdUart16550Rbr) (by rw [hsel]; rfl)]
    rfl
  | thr | fcr => exact absurd (readable_of_lookup h) Bool.false_ne_true
  | iir =>
    obtain rfl : off = 0x08 := BitVec.eq_of_toNat_eq hoff
    rw [rbRead_of_not_readChanges h rfl]
    exact congrArg (doneWord · s) (packedFields_iir s).symm
  | lsr =>
    obtain rfl : off = 0x14 := BitVec.eq_of_toNat_eq hoff
    rw [rbRead_of_lookup h]
    exact congrArg (doneWord · _) (packedFields_lsr s).symm
  | timerControl =>
    obtain rfl : off = 0x00 := BitVec.eq_of_toNat_eq hoff
    rw [rbRead_of_not_readChanges h rfl]
    exact congrArg (doneWord · s) (packedFields_timerControl s).symm
  | timerValue =>
    obtain rfl : off = 0x04 := BitVec.eq_of_toNat_eq hoff
    rw [rbRead_of_not_readChanges h rfl]
    exact congrArg (doneWord · s) (BitVec.zero_or.trans (packField_word s.timer.value)).symm
  | timerStatus =>
    obtain rfl : off = 0x10 := BitVec.eq_of_toNat_eq hoff
    rw [rbRead_of_not_readChanges h rfl]
    exact congrArg (doneWord · s) (BitVec.zero_or.trans (packField_boolWord s.timer.ovfPending 0)).symm
  | cmpCtrl k hk =>
    obtain ⟨j, hwf, rfl, rfl⟩ := exists_cmpOffset (x := 4) (by omega) hoff
    obtain ⟨c, hcmp⟩ := cmpAt_isSome hlen hk
    rw [rbRead_of_not_readChanges h rfl, busRead_of_row (w := .timer) (readTimer_cmpOffset hwf).2]
    simp only [exec, execRdTimerCmpCtrl, hcmp]
    exact congrArg (doneWord · s) (packedFields_cmpCtrl hcmp).symm
  | chCtrl n hn =>
    obtain ⟨j, rfl, rfl⟩ := exists_chOffset (x := 0xC) (by omega) hoff
    obtain ⟨c, hchan⟩ := chanAt_isSome hlen hn
    obtain ⟨_, _, _, hrow⟩ := readDma_chOffset j
    rw [rbRead_of_not_readChanges h rfl, busRead_of_row (w := .dma) hrow]
    simp only [exec, execRdDmaChCtrl, hchan]
    exact congrArg (doneWord · s) (packedFields_chCtrl hchan).symm
  | intcPending =>
    obtain rfl : off = 0x04 := BitVec.eq_of_toNat_eq hoff
    rw [rbRead_of_not_readChanges h rfl]
    exact congrArg (doneWord · s) (packedFields_intcPending hc).symm

end

/-! ## Writes -/

/-- What a write does to a one-bit field, when that depends on the bit alone (R149). -/
theorem writeStep_bit {f : FieldId} {v : Word} {s : State} {lo : Nat} (g : Bool → State)
    (happly : ∀ sub : Word, applyField f sub s = g (sub.getLsbD 0)) (hlo : (fieldDesc s.cfg f).lo.toNat = lo := by rfl)
    (hwidth : (fieldDesc s.cfg f).width.toNat = 1 := by rfl) : writeStep v s f = g (v.getLsbD lo) := by
  rw [writeStep, happly, hlo, hwidth, getLsbD_extractField_zero]

section
variable (v : Word) (s : State)

theorem writeSteps_status (x : Serial) :
    (statusFields x).foldl (writeStep v) s = if v.getLsbD 4 then clearOverrun x s else s :=
  writeStep_bit (f := .overrun x) (fun b => if b then clearOverrun x s else s) fun _ => rfl

theorem writeSteps_fcr :
    hook .uart16550 ([FieldId.fcrFifoEn, .fcrRxClr, .fcrTxClr, .fcrRxTrig].foldl (writeStep v) s) = execWrUart16550Fcr v s := by
  have hen : writeStep v s .fcrFifoEn = { s with u16 := { s.u16 with fifoEn := v.getLsbD 0 } } :=
    writeStep_bit (fun b => { s with u16 := { s.u16 with fifoEn := b } }) fun _ => rfl
  have hrx (t : State) : writeStep v t .fcrRxClr = if v.getLsbD 1 then clearFifo ⟨.uart16550, .rx⟩ t else t :=
    writeStep_bit (fun b => if b then clearFifo ⟨.uart16550, .rx⟩ t else t) fun _ => rfl
  have htx (t : State) : writeStep v t .fcrTxClr = if v.getLsbD 2 then clearFifo ⟨.uart16550, .tx⟩ t else t :=
    writeStep_bit (fun b => if b then clearFifo ⟨.uart16550, .tx⟩ t else t) fun _ => rfl
  have htrig (t : State) : writeStep v t .fcrRxTrig = { t with u16 := { t.u16 with trig := v.extractLsb' 6 2 } } :=
    congrArg (fun x => { t with u16 := { t.u16 with trig := x } }) (setWidth_extractField v 6 2)
  simp only [List.foldl_cons, List.foldl_nil, hen, hrx, htx, htrig]
  rfl

theorem writeSteps_timerControl :
    [FieldId.timerEn, .timerOneshot, .timerOvfIe].foldl (writeStep v) s =
      { s with
        timer :=
          { (if v.getLsbD 0 then tchStart s.cfg.cmpArmOnce s.timer else tchStop s.timer) with
            oneshot := v.getLsbD 1, ovfIe := v.getLsbD 2 } } := by
  simp [writeStep, applyField, fieldDesc, component, getLsbD_extractField, -BitVec.getLsbD_eq_getElem]

theorem setCmp_setCmp (k : Nat) (c d : Cmp) : setCmp (setCmp s k c) k d = setCmp s k d := by simp [setCmp]

theorem setChan_setChan (n : Nat) (c d : DmaChannel) : setChan (setChan s n c) n d = setChan s n d := by simp [setChan]

end

section
variable {s : State} (v : Word)

theorem writeSteps_cmpCtrl {k : Nat} {c : Cmp} (hc : cmpAt s k = some c) :
    [FieldId.cmpEn k, .cmpPend k].foldl (writeStep v) s =
      setCmp s k { c with en := v.getLsbD 0, pending := c.pending && !v.getLsbD 1 } := by
  have hen : writeStep v s (.cmpEn k) = setCmp s k { c with en := v.getLsbD 0 } :=
    writeStep_bit (fun b => setCmp s k { c with en := b }) fun _ => by simp only [applyField, modifyCmp, hc]
  have hpend (t : State) : writeStep v t (.cmpPend k) =
      if v.getLsbD 1 then modifyCmp k (fun c => { c with pending := false }) t else t :=
    writeStep_bit (fun b => if b then modifyCmp k (fun c => { c with pending := false }) t else t) fun _ => rfl
  have hstored (d : Cmp) : cmpAt (setCmp s k d) k = some d := cmpAt_setCmp_same d hc
  simp only [List.foldl_cons, List.foldl_nil, hen, hpend, modifyCmp, hstored, setCmp_setCmp]
  cases v.getLsbD 1 <;> simp

theorem writeSteps_chCtrl {n : Nat} {c : DmaChannel} (hc : chanAt s n = some c) :
    [FieldId.chEn n, .chStart n, .chIe n, .chIf n].foldl (writeStep v) s = setChan s n (setChanCtrl v c) := by
  have hen : writeStep v s (.chEn n) = setChan s n { c with enabled := v.getLsbD 0 } :=
    writeStep_bit (fun b => setChan s n { c with enabled := b }) fun _ => by simp only [applyField, modifyChan, hc]
  have hstart (t : State) : writeStep v t (.chStart n) = t := rfl
  have hie (t : State) : writeStep v t (.chIe n) = modifyChan n (fun c => { c with ie := v.getLsbD 2 }) t :=
    writeStep_bit (fun b => modifyChan n (fun c => { c with ie := b }) t) fun _ => rfl
  have hif (t : State) : writeStep v t (.chIf n) =
      if v.getLsbD 3 then modifyChan n (fun c => { c with pending := false }) t else t :=
    writeStep_bit (fun b => if b then modifyChan n (fun c => { c with pending := false }) t else t) fun _ => rfl
  have hstored (d : DmaChannel) : chanAt (setChan s n d) n = some d := chanAt_setChan_same d hc
  simp only [List.foldl_cons, List.foldl_nil, hen, hstart, hie, hif, modifyChan, hstored, setChan_setChan, setChanCtrl]
  cases v.getLsbD 3 <;> simp

/-- The hook of a channel's control Register makes the request of `START` (R451). -/
theorem hookAction_chCtrl (n : Nat) (s : State) :
    hookAction .dma (chOff n 0xC) v s = if v.getLsbD 1 then dmaRequest n s else .next s := by
  have hge : 0x100 ≤ chOff n 0xC := by rw [chOff]; omega
  have hmod : (chOff n 0xC - 0x100) % 0x20 = 0xC := by rw [chOff]; omega
  have hdiv : (chOff n 0xC - 0x100) / 0x20 = n := by rw [chOff]; omega
  simp only [hookAction, hge, hmod, hdiv, true_and]

end

section
variable {w : Window} {off : BitVec 12} {r : Register} {s : State}

/-- A data write pushes its low byte (R293). -/
theorem writeStep_data (v : Word) (x : Serial) : serDataWrite x (v.extractLsb' 0 8) s = writeStep v s (.data x) :=
  congrArg (serDataWrite x · s) (setWidth_extractField v 0 8).symm

theorem busWrite_effectRegister (hinv : s.Inv) (hr : EffectRegister s.cfg w r)
    (h : lookup s.cfg s.u16.mapSel w false off.toNat = some r) (v : Word) : busWrite w off v s = rbWrite w off.toNat v s := by
  have hoff := off_of_lookup h
  obtain ⟨⟨_, _, hpins, hcmps, _, hchans, _⟩, hlen, _⟩ := hinv
  rw [rbWrite_of_lookup h]
  cases hr with
  | gpioData =>
    obtain rfl : off = 0x00 := BitVec.eq_of_toNat_eq hoff
    exact congrArg (fun x => hook .gpio (applyField .gpioData x s)) (extractField_param hpins v).symm
  | gpioIs hext =>
    obtain rfl : off = 0x0C := BitVec.eq_of_toNat_eq hoff
    exact (if_pos hext).trans (congrArg (fun x => hook .gpio (applyField .gpioIs x s)) (extractField_param hpins v).symm)
  | uartData =>
    obtain rfl : off = 0x00 := BitVec.eq_of_toNat_eq hoff
    exact congrArg (hook .uart) (writeStep_data v .uart)
  | spiData =>
    obtain rfl : off = 0x04 := BitVec.eq_of_toNat_eq hoff
    exact congrArg (hook .spi) (writeStep_data v .spi)
  | i2cData =>
    obtain rfl : off = 0x04 := BitVec.eq_of_toNat_eq hoff
    exact congrArg (hook .i2c) (writeStep_data v .i2c)
  | uartStatus =>
    obtain rfl : off = 0x04 := BitVec.eq_of_toNat_eq hoff
    exact congrArg (hook .uart) (writeSteps_status v s .uart).symm
  | spiStatus =>
    obtain rfl : off = 0x08 := BitVec.eq_of_toNat_eq hoff
    exact congrArg (hook .spi) (writeSteps_status v s .spi).symm
  | i2cStatus =>
    obtain rfl : off = 0x08 := BitVec.eq_of_toNat_eq hoff
    exact congrArg (hook .i2c) (writeSteps_status v s .i2c).symm
  | rbr | iir => exact absurd (writable_of_lookup h) Bool.false_ne_true
  | thr =>
    obtain rfl : off = 0x00 := BitVec.eq_of_toNat_eq hoff
    have hsel := mapSel_of_lookup_sel0 h rfl
    rw [busWrite_of_row (i := .wrUart16550Thr v) (by rw [hsel]; rfl)]
    exact congrArg (hook .uart16550) (writeStep_data v .uart16550)
  | fcr =>
    obtain rfl : off = 0x08 := BitVec.eq_of_toNat_eq hoff
    exact (writeSteps_fcr v s).symm
  | lsr =>
    obtain rfl : off = 0x14 := BitVec.eq_of_toNat_eq hoff
    rfl
  | timerControl =>
    obtain rfl : off = 0x00 := BitVec.eq_of_toNat_eq hoff
    exact congrArg (hook .timer) (writeSteps_timerControl v s).symm
  | timerValue =>
    obtain rfl : off = 0x04 := BitVec.eq_of_toNat_eq hoff
    exact congrArg (fun x => hook .timer (applyField .timerValue x s)) (extractField_word v).symm
  | timerStatus =>
    obtain rfl : off = 0x10 := BitVec.eq_of_toNat_eq hoff
    have hstep : writeStep v s .timerOvf =
        if v.getLsbD 0 then { s with timer := { s.timer with ovfPending := false } } else s :=
      writeStep_bit (fun b => if b then { s with timer := { s.timer with ovfPending := false } } else s) fun _ => rfl
    exact congrArg (hook .timer) hstep.symm
  | cmpCtrl k hk =>
    obtain ⟨j, hwf, rfl, rfl⟩ := exists_cmpOffset (x := 4) (by omega) hoff
    obtain ⟨c, hcmp⟩ := cmpAt_isSome hlen hk
    rw [busWrite_of_row (w := .timer) (writeTimer_cmpOffset hwf v).2]
    simp only [exec, execWrTimerCmpCtrl, hcmp]
    exact congrArg (hook .timer) (writeSteps_cmpCtrl v hcmp).symm
  | chCtrl n hn =>
    obtain ⟨j, rfl, rfl⟩ := exists_chOffset (x := 0xC) (by omega) hoff
    obtain ⟨c, hchan⟩ := chanAt_isSome hlen hn
    obtain ⟨_, _, _, hrow⟩ := writeDma_chOffset j v
    rw [busWrite_of_row (w := .dma) hrow, hoff]
    simp only [exec, execWrDmaChCtrl, hchan]
    rw [← hookAction_chCtrl]
    exact congrArg (fun t => andThen (hookAction .dma (chOff j.toNat 0xC) v t) (hook .dma)) (writeSteps_chCtrl v hchan).symm
  | intcPending =>
    obtain rfl : off = 0x04 := BitVec.eq_of_toNat_eq hoff
    rfl

/-! ## The bus is the bank -/

/-- A read completes alike by the Register's rule and by the bank's: unmatched, of a storage Register, or of one of the others. -/
theorem busRead_eq_rbRead (hinv : s.Inv) (w : Window) (off : BitVec 12) : busRead w off s = rbRead w off.toNat s := by
  cases h : lookup s.cfg s.u16.mapSel w true off.toNat with
  | none => rw [busRead_unmatched hinv.1 h, rbRead_of_lookup_none h]
  | some r =>
    obtain hstorage | heffect := storage_or_effect (mem_registersOf_of_lookup h)
    · have hoff := off_of_lookup h ▸ hstorage.offset _ (active_of_lookup h)
      have hreg := storageRegister_of_storageOffset hinv hoff (lookup_write_of_read h hstorage.writable)
      rw [hreg.busRead, rbRead_pure h fun f hf => effect_of_isCell (hreg.cells f hf)]
    · exact busRead_effectRegister hinv heffect h

theorem busWrite_eq_rbWrite (hinv : s.Inv) (w : Window) (off : BitVec 12) (v : Word) :
    busWrite w off v s = rbWrite w off.toNat v s := by
  cases h : lookup s.cfg s.u16.mapSel w false off.toNat with
  | none => rw [busWrite_unmatched hinv.1 h, rbWrite_of_lookup_none h]
  | some r =>
    obtain hstorage | heffect := storage_or_effect (mem_registersOf_of_lookup h)
    · have hoff := off_of_lookup h ▸ hstorage.offset _ (active_of_lookup h)
      rw [(storageRegister_of_storageOffset hinv hoff h).busWrite, rbWrite_of_lookup h]
    · exact busWrite_effectRegister hinv heffect h v

end

/-- Settles O7: `busRead_eq_rbRead`, `busWrite_eq_rbWrite`, and the completion of every stimulus. -/
theorem busAccessIsBankAccess : Obligations.BusAccessIsBankAccess := by
  intro w off v s hinv
  have hread : busRead w off s = exec (.opRbRead w (off.setWidth 32)) s :=
    (busRead_eq_rbRead hinv w off).trans (congrArg (rbRead w · s) (toNat_setWidth_offset off).symm)
  have hwrite : busWrite w off v s = exec (.opRbWrite w (off.setWidth 32) v) s :=
    (busWrite_eq_rbWrite hinv w off v).trans (congrArg (rbWrite w · v s) (toNat_setWidth_offset off).symm)
  refine ⟨hread, hwrite, ?_, fun hbases => ?_⟩
  · obtain hnext | ⟨_, hmoves, _⟩ := exec_nextOrTouching (i := .opRbRead w (off.setWidth 32)) s nofun
    · exact hread ▸ hnext
    · cases hmoves
  · obtain ⟨_, _, hcompletes⟩ := everyStimulusCompletes (.opRbWrite w (off.setWidth 32) v) s nofun
    exact hwrite ▸ hcompletes hbases

end Sys2Proof.Machine
end

section
/-! The FIFOQueue operations (R171 to R177): one equation per case of each operation on a queue of the block, and what a run of
pushes leaves in the queue. -/

namespace Sys2Proof.Machine

/-! ## Writing a queue back, and what the result field leaves alone -/

theorem setFifo_fifoOf (q : FifoId) (s : State) : setFifo q (fifoOf q s) s = s := by
  obtain ⟨core, _ | _⟩ := q <;> exact setPort_portOf core s

theorem fifoOf_ret (q : FifoId) (r : Result) (s : State) : fifoOf q (ret r s) = fifoOf q s := by
  obtain ⟨core, _ | _⟩ := q <;> simp [portOf_ret]

/-! ## One equation per case of each operation -/

section
variable {q : FifoId} {s : State}

theorem exec_opFifoPush (q : FifoId) (b : Byte) (s : State) :
    exec (.opFifoPush q b) s = .next (ret (.bool (pushFifo q b s).1) (pushFifo q b s).2) := rfl

theorem exec_opFifoPop (q : FifoId) (s : State) :
    exec (.opFifoPop q) s = .next (ret (.byte (popFifo q s).1) (popFifo q s).2) := rfl

theorem fifoOf_pushFifo (q : FifoId) (b : Byte) (s : State) :
    fifoOf q (pushFifo q b s).2 = (fifoPush s.cfg.fifoCap (fifoOf q s) b).2 := fifoOf_setFifo ..

theorem pushFifo_full (b : Byte) (h : (fifoOf q s).length = s.cfg.fifoCap) : pushFifo q b s = (false, s) := by
  simp only [pushFifo, fifoPush_full b h, setFifo_fifoOf]

theorem pushFifo_room (b : Byte) (h : (fifoOf q s).length ≠ s.cfg.fifoCap) :
    pushFifo q b s = (true, setFifo q (fifoOf q s ++ [b]) s) := by
  simp only [pushFifo, fifoPush_room b h]

theorem popFifo_nil (h : fifoOf q s = []) : popFifo q s = (none, s) := by
  have hback : setFifo q [] s = s := h ▸ setFifo_fifoOf q s
  simp only [popFifo, h, fifoPop, hback]

theorem popFifo_cons {b : Byte} {bs : List Byte} (h : fifoOf q s = b :: bs) : popFifo q s = (some b, setFifo q bs s) := by
  simp only [popFifo, h, fifoPop]

theorem exec_opFifoPush_full (b : Byte) (h : (fifoOf q s).length = s.cfg.fifoCap) :
    exec (.opFifoPush q b) s = .next (ret (.bool false) s) := by
  rw [exec_opFifoPush, pushFifo_full b h]

theorem exec_opFifoPush_room (b : Byte) (h : (fifoOf q s).length ≠ s.cfg.fifoCap) :
    exec (.opFifoPush q b) s = .next (ret (.bool true) (setFifo q (fifoOf q s ++ [b]) s)) := by
  rw [exec_opFifoPush, pushFifo_room b h]

theorem exec_opFifoPop_nil (h : fifoOf q s = []) : exec (.opFifoPop q) s = .next (ret (.byte none) s) := by
  rw [exec_opFifoPop, popFifo_nil h]

theorem exec_opFifoPop_cons {b : Byte} {bs : List Byte} (h : fifoOf q s = b :: bs) :
    exec (.opFifoPop q) s = .next (ret (.byte (some b)) (setFifo q bs s)) := by
  rw [exec_opFifoPop, popFifo_cons h]

end

/-! ## A run of pushes -/

theorem execAll_cons_of_next {i : Instr} {s t : State} (h : exec i s = .next t) (is : List Instr) :
    execAll (i :: is) s = execAll is t := by
  rw [execAll, h, andThen_next]

/-- From any queue within its capacity: once the queue is full, the later bytes are the ones lost. -/
theorem execAll_pushes (q : FifoId) (bs : List Byte) {s : State} (hcap : (fifoOf q s).length ≤ s.cfg.fifoCap) :
    ∃ t, execAll (bs.map (Instr.opFifoPush q)) s = .next t ∧ fifoOf q t = (fifoOf q s ++ bs).take s.cfg.fifoCap := by
  induction bs generalizing s with
  | nil => exact ⟨s, rfl, by rw [List.append_nil, List.take_of_length_le hcap]⟩
  | cons b bs ih =>
    rw [List.map_cons]
    by_cases hfull : (fifoOf q s).length = s.cfg.fifoCap
    · rw [execAll_cons_of_next (exec_opFifoPush_full b hfull)]
      obtain ⟨t, hrun, hqueue⟩ := ih (s := ret (.bool false) s) (by simpa [fifoOf_ret] using hcap)
      refine ⟨t, hrun, hqueue.trans ?_⟩
      rw [fifoOf_ret, ret_cfg, List.take_left' hfull, List.take_left' hfull]
    · rw [execAll_cons_of_next (exec_opFifoPush_room b hfull)]
      have hroom : (fifoOf q s ++ [b]).length ≤ s.cfg.fifoCap := by
        rw [List.length_append, List.length_singleton]; omega
      obtain ⟨t, hrun, hqueue⟩ := ih (s := ret (.bool true) (setFifo q (fifoOf q s ++ [b]) s))
        (by simpa [fifoOf_ret] using hroom)
      refine ⟨t, hrun, hqueue.trans ?_⟩
      rw [fifoOf_ret, fifoOf_setFifo, ret_cfg, setFifo_cfg, List.append_assoc, List.singleton_append]

/-! ## The settled statements -/

/-- Settles O18: `execAll_pushes` from the empty queue. -/
theorem pushesKeepTheFirstCapacityBytes : Obligations.PushesKeepTheFirstCapacityBytes := by
  intro q bs s hempty
  obtain ⟨t, hrun, hqueue⟩ := execAll_pushes q bs (s := s) (by rw [hempty]; exact Nat.zero_le _)
  exact ⟨t, hrun, by rw [hqueue, hempty, List.nil_append]⟩

/-- Settles O16: the two cases of the push, and `fifoPush_length` for the count. -/
theorem fifoPushAppendsOrRejects : Obligations.FifoPushAppendsOrRejects := by
  intro q b s
  refine ⟨exec_opFifoPush_full b, exec_opFifoPush_room b, fun hcap => ⟨_, exec_opFifoPush q b s, ?_⟩⟩
  rw [fifoOf_ret, fifoOf_pushFifo]
  exact fifoPush_length b hcap

/-- Settles O17: the two cases of the pop; the queries read the queue and the clear writes the empty one. -/
theorem fifoPopCountFullEmptyClear : Obligations.FifoPopCountFullEmptyClear := by
  intro q s
  exact ⟨exec_opFifoPop_nil, fun _ _ => exec_opFifoPop_cons, rfl, rfl, rfl, rfl⟩

end Sys2Proof.Machine
end

section
/-! Interrupt lines and arbitration (R191 to R203, R466): what setting a line does, which source the arbitration elects, the
snapshot bit by bit, and the level of each window's line from the table of R200. -/

namespace Sys2Proof.Machine

/-! ## Setting a line (R191) -/

/-- A line set to the level it has: nothing changes and nothing is notified (R191). -/
theorem lineSet_lineOf (w : Window) (s : State) : lineSet w (lineOf w s) s = s := by
  simp [lineSet]

/-- Setting a line touches the lines, the trace and no other part of the state. -/
theorem lineSet_restore (w : Window) (b : Bool) (r : Result) (s : State) :
    { ret r (lineSet w b s) with lines := s.lines, trace := s.trace, result := s.result } = s := by
  rw [lineSet_eq]
  cases w <;> rfl

theorem lineNotice_ret (w : Window) (r : Result) (s t : State) : lineNotice w s (ret r t) = lineNotice w s t := by
  simp only [lineNotice, lineOf_ret]

/-- The notification of a line set to `b`: there is one exactly when that is a change. -/
theorem lineNotice_lineSet (w : Window) (b : Bool) (s : State) :
    lineNotice w s (lineSet w b s) = if b = lineOf w s then [] else [.notify w b] := by
  rw [lineNotice, lineOf_lineSet]

/-- What `LINE.SET`, `AGG.OR` and `AGG.PRIO` leave: the line at its level, one notification if that is a change, and every
other line and component as it was. -/
theorem lineSet_effect (w : Window) (b : Bool) (r : Result) (s : State) :
    lineOf w (ret r (lineSet w b s)) = b ∧ (∀ x, x ≠ w → lineOf x (ret r (lineSet w b s)) = lineOf x s) ∧
      (ret r (lineSet w b s)).trace = s.trace ++ lineNotice w s (ret r (lineSet w b s)) ∧
      { ret r (lineSet w b s) with lines := s.lines, trace := s.trace, result := s.result } = s := by
  refine ⟨by rw [lineOf_ret, lineOf_lineSet], fun x hx => by rw [lineOf_ret, lineOf_lineSet_ne hx], ?_,
    lineSet_restore w b r s⟩
  rw [lineNotice_ret, ret_trace, lineSet_trace]

/-! ## Recomputing a line (R200, R201) -/

theorem lineOf_updateInterrupts (w : Window) (s : State) : lineOf w (updateInterrupts w s) = lineLevel w s :=
  lineOf_lineSet ..

theorem lineLevel_updateInterrupts (w : Window) (s : State) : lineLevel w (updateInterrupts w s) = lineLevel w s :=
  lineLevel_congr (updateInterrupts_cfg w s) (windowSame_updateInterrupts w w s)

theorem updateInterrupts_of_settled {w : Window} {s : State} (h : lineOf w s = lineLevel w s) : updateInterrupts w s = s := by
  rw [updateInterrupts, ← h, lineSet_lineOf]

/-- The second recomputation finds the line settled (R201). -/
theorem updateInterrupts_idem (w : Window) (s : State) : updateInterrupts w (updateInterrupts w s) = updateInterrupts w s :=
  updateInterrupts_of_settled ((lineOf_updateInterrupts w s).trans (lineLevel_updateInterrupts w s).symm)

/-! ## Which sources qualify (R193, R194) -/

theorem qualifies_iff (x : Source) : qualifies x = true ↔ x.enable = true ∧ x.pending = true := Bool.and_eq_true_iff

theorem qualifies_orSource (enable pending : Bool) : qualifies (orSource enable pending) = (enable && pending) := rfl

theorem orOf_iff (ss : List Source) : orOf ss = true ↔ ∃ x ∈ ss, x.enable = true ∧ x.pending = true := by
  simp only [orOf, List.any_eq_true, qualifies_iff]

/-- The qualifying sources are the entries of the list that are enabled and pending, each with its index. -/
theorem mem_qualifying {ss : List Source} {x : Source} {i : Nat} :
    (x, i) ∈ qualifying ss ↔ ss[i]? = some x ∧ x.enable = true ∧ x.pending = true := by
  rw [qualifying, List.mem_filter, List.mem_zipIdx_iff_getElem?, qualifies_iff]

/-- They stand in ascending order of their indices. -/
theorem qualifying_ascending (ss : List Source) : (qualifying ss).Pairwise (fun p q => p.2 < q.2) := by
  have hidx : (ss.zipIdx.map Prod.snd).Pairwise (· < ·) := by
    rw [List.zipIdx_map_snd]
    exact List.pairwise_lt_range'
  exact (List.pairwise_map.mp hidx).filter _

/-! ## The elected source (R196, R197) -/

/-- Source `i` qualifies, and no qualifying source has a larger priority, nor the same priority at a lower index. -/
def Elected (ss : List Source) (i : Nat) : Prop :=
  ∃ x, ss[i]? = some x ∧ x.enable = true ∧ x.pending = true ∧
    ∀ j y, ss[j]? = some y → y.enable = true → y.pending = true →
      y.prio.toNat < x.prio.toNat ∨ (y.prio = x.prio ∧ i ≤ j)

theorem Elected.unique {ss : List Source} {i k : Nat} (hi : Elected ss i) (hk : Elected ss k) : i = k := by
  obtain ⟨x, hx, hxe, hxp, hbest⟩ := hi
  obtain ⟨y, hy, hye, hyp, hbest'⟩ := hk
  have h := hbest k y hy hye hyp
  have h' := hbest' i x hx hxe hxp
  simp only [← BitVec.toNat_inj] at h h'
  omega

/-- The source that the arbitration finds is elected: its priority is the maximum, and it is the first one found with it. -/
theorem elected_of_winner {ss : List Source} {i : Nat} (h : winner ss = some i) : Elected ss i := by
  unfold winner at h
  split at h
  · cases h
  next p hmax =>
    obtain ⟨⟨x, k⟩, hfind, rfl⟩ := Option.map_eq_some_iff.mp h
    obtain ⟨hprio, before, after, hsplit, hfirst⟩ := List.find?_eq_some_iff_append.mp hfind
    rw [beq_iff_eq] at hprio
    have hmem : (x, k) ∈ qualifying ss := List.mem_of_find?_eq_some hfind
    obtain ⟨hx, hen, hpend⟩ := mem_qualifying.mp hmem
    refine ⟨x, hx, hen, hpend, fun j y hy hye hyp => ?_⟩
    have hymem : (y, j) ∈ qualifying ss := mem_qualifying.mpr ⟨hy, hye, hyp⟩
    have hle : y.prio.toNat ≤ p := (List.max?_eq_some_iff.mp hmax).2 _ (List.mem_map_of_mem hymem)
    rw [← hprio] at hle
    refine hle.lt_or_eq.imp_right fun heq => ⟨BitVec.eq_of_toNat_eq heq, ?_⟩
    rw [hsplit, List.mem_append, List.mem_cons] at hymem
    rcases hymem with hbefore | hself | hafter
    · have hne := hfirst (y, j) hbefore
      simp [heq, hprio] at hne
    · exact (congrArg Prod.snd hself).ge
    · have hsorted := hsplit ▸ qualifying_ascending ss
      obtain ⟨_, htail, _⟩ := List.pairwise_append.mp hsorted
      exact (List.rel_of_pairwise_cons htail hafter).le

theorem winner_eq_none_iff (ss : List Source) : winner ss = none ↔ ∀ x ∈ ss, ¬(x.enable = true ∧ x.pending = true) := by
  constructor
  · intro h x hx hq
    obtain ⟨i, hi⟩ := List.mem_iff_getElem?.mp hx
    have hmem : (x, i) ∈ qualifying ss := mem_qualifying.mpr ⟨hi, hq⟩
    unfold winner at h
    split at h
    next hmax => simp [List.ne_nil_of_mem hmem] at hmax
    next p hmax =>
      obtain ⟨q, hq, rfl⟩ := List.mem_map.mp (List.max?_eq_some_iff.mp hmax).1
      have hnone := List.find?_eq_none.mp (Option.map_eq_none_iff.mp h) q hq
      exact hnone (beq_self_eq_true _)
  · intro h
    exact winner_eq_none fun x hx => Bool.eq_false_iff.mpr fun hq => h x hx ((qualifies_iff x).mp hq)

theorem winner_isSome_iff (ss : List Source) :
    (winner ss).isSome = true ↔ ∃ x ∈ ss, x.enable = true ∧ x.pending = true := by
  rw [Option.isSome_iff_ne_none, ne_eq, winner_eq_none_iff]
  push Not
  rfl

/-- The arbitration finds exactly the elected source: it finds an elected one if any source qualifies, and there is only
one. -/
theorem winner_eq_some_iff (ss : List Source) (i : Nat) : winner ss = some i ↔ Elected ss i := by
  refine ⟨elected_of_winner, fun h => ?_⟩
  obtain ⟨x, hx, hen, hpend, _⟩ := id h
  have hsome := (winner_isSome_iff ss).mpr ⟨x, List.mem_of_getElem? hx, hen, hpend⟩
  obtain ⟨k, hk⟩ := Option.isSome_iff_exists.mp hsome
  rw [hk, h.unique (elected_of_winner hk)]

/-! ## The snapshot (R199) -/

theorem getLsbD_snapshotFrom : ∀ (ss : List Source) (i j : Nat), i + ss.length ≤ 32 →
    (snapshotFrom i ss).getLsbD j = (decide (i ≤ j) && (ss[j - i]?.elim false Source.pending))
  | [], i, j, _ => by simp [snapshotFrom]
  | x :: ss, i, j, h => by
    rw [List.length_cons] at h
    rw [snapshotFrom, BitVec.getLsbD_or, show boolWord x.pending <<< i = flagAt x.pending i from rfl, getLsbD_flagAt,
      getLsbD_snapshotFrom ss (i + 1) j (by omega)]
    rcases Nat.lt_trichotomy j i with hlt | rfl | hgt
    · simp [show ¬i ≤ j by omega, show ¬i + 1 ≤ j by omega, show j ≠ i by omega]
    · simp [show j < 32 by omega]
    · simp [show i ≤ j by omega, show i + 1 ≤ j by omega, show j ≠ i by omega, show j - i = j - (i + 1) + 1 by omega]

theorem getLsbD_snapshot {ss : List Source} (h : ss.length ≤ 32) (j : Nat) :
    (snapshot ss).getLsbD j = ss[j]?.elim false Source.pending := by
  rw [snapshot, getLsbD_snapshotFrom ss 0 j (by omega)]
  simp

/-! ## The level of each window's line (R200, R291, R300) -/

theorem lineLevel_gpio_iff (s : State) : lineLevel .gpio s = true ↔ s.cfg.gpioExt = true ∧
    ∃ i, i < s.cfg.nGpio ∧ s.gpio.ie.getLsbD i = true ∧ s.gpio.is.getLsbD i = true := by
  cases hext : s.cfg.gpioExt <;> simp [lineLevel, orOf, sources, hext, qualifies_orSource]

/-- The level of three OR sources. -/
theorem orOf_three (e₁ p₁ e₂ p₂ e₃ p₃ : Bool) : orOf [orSource e₁ p₁, orSource e₂ p₂, orSource e₃ p₃] = true ↔
    (e₁ = true ∧ p₁ = true) ∨ (e₂ = true ∧ p₂ = true) ∨ (e₃ = true ∧ p₃ = true) := by
  simp [orOf, qualifies_orSource]

/-- The sources of UART, SPI and I2C: the two thresholds and the overrun flag (R300). -/
theorem orOf_serial_iff (x : Serial) (txIe rxIe ovrIe overrun : Bool) (s : State) :
    orOf [orSource txIe (txThreshold x s), orSource rxIe (rxThreshold x s), orSource ovrIe overrun] = true ↔
      (txIe = true ∧ (portOf x s).tx.length ≤ txLevel x s) ∨ (rxIe = true ∧ rxLevel x s ≤ (portOf x s).rx.length) ∨
        (ovrIe = true ∧ overrun = true) := by
  rw [orOf_three, txThreshold, rxThreshold, decide_eq_true_iff, decide_eq_true_iff]

theorem lineLevel_uart_iff (s : State) : lineLevel .uart s = true ↔
    (s.uart.txIe = true ∧ s.uart.port.tx.length ≤ s.uart.txTrig.toNat) ∨
    (s.uart.rxIe = true ∧ s.uart.rxTrig.toNat ≤ s.uart.port.rx.length) ∨
    (s.uart.ovrIe = true ∧ s.uart.port.overrun = true) := orOf_serial_iff .uart ..

theorem lineLevel_spi_iff (s : State) : lineLevel .spi s = true ↔
    (s.spi.txIe = true ∧ s.spi.port.tx.length ≤ s.spi.txTrig.toNat) ∨
    (s.spi.rxIe = true ∧ s.spi.rxTrig.toNat ≤ s.spi.port.rx.length) ∨
    (s.spi.ovrIe = true ∧ s.spi.port.overrun = true) := orOf_serial_iff .spi ..

theorem lineLevel_i2c_iff (s : State) : lineLevel .i2c s = true ↔
    (s.i2c.txIe = true ∧ s.i2c.port.tx.length ≤ s.i2c.txTrig.toNat) ∨
    (s.i2c.rxIe = true ∧ s.i2c.rxTrig.toNat ≤ s.i2c.port.rx.length) ∨
    (s.i2c.ovrIe = true ∧ s.i2c.port.overrun = true) := orOf_serial_iff .i2c ..

theorem lineLevel_uart16550_iff (s : State) : lineLevel .uart16550 s = true ↔
    (s.u16.elsi = true ∧ s.u16.port.overrun = true) ∨
    (s.u16.erbfi = true ∧
      (if s.u16.trig = 0 then 1 else if s.u16.trig = 1 then 4 else if s.u16.trig = 2 then 8 else 14) ≤
        s.u16.port.rx.length) ∨
    (s.u16.etbei = true ∧ s.u16.port.tx = []) := by
  have hrx : rxThreshold .uart16550 s = true ↔ trigLevel s.u16.trig ≤ s.u16.port.rx.length := decide_eq_true_iff
  have htx : isEmpty s.u16.port.tx = true ↔ s.u16.port.tx = [] := beq_iff_eq.trans List.length_eq_zero_iff
  rw [← trigLevel_eq, ← hrx, ← htx]
  exact orOf_three ..

theorem lineLevel_timer_iff (s : State) : lineLevel .timer s = true ↔
    (s.timer.ovfIe = true ∧ s.timer.ovfPending = true) ∨ ∃ c ∈ s.timer.cmp, c.en = true ∧ c.pending = true := by
  simp [lineLevel, orOf, sources, qualifies_orSource]

theorem lineLevel_dma_iff (s : State) :
    lineLevel .dma s = true ↔ ∃ c ∈ s.dma.ch, c.ie = true ∧ c.pending = true := by
  simp [lineLevel, orOf, sources, qualifies_orSource]

theorem lineLevel_intc_iff (s : State) : lineLevel .intc s = true ↔
    ∃ i, i < s.cfg.nIrqSrc ∧ s.intc.enable.getLsbD i = true ∧ s.intc.pending.getLsbD i = true := by
  rw [lineLevel, winner_isSome_iff]
  simp [sources]

/-! ## The source events of the INTC (R466, R468) -/

theorem sources_intc_getElem? (s : State) (i : Nat) : (sources .intc s)[i]? =
    if i < s.cfg.nIrqSrc then some ⟨s.intc.enable.getLsbD i, s.intc.pending.getLsbD i, s.intc.prio.getD i 0⟩ else none := by
  by_cases hi : i < s.cfg.nIrqSrc <;> simp [sources, hi]

/-- `intc.winner` in the fields of the INTC. -/
theorem intcWinner_eq_some_iff (s : State) (i : Nat) : intcWinner s = some i ↔
    i < s.cfg.nIrqSrc ∧ s.intc.enable.getLsbD i = true ∧ s.intc.pending.getLsbD i = true ∧
      ∀ j, j < s.cfg.nIrqSrc → s.intc.enable.getLsbD j = true → s.intc.pending.getLsbD j = true →
        (s.intc.prio.getD j 0).toNat < (s.intc.prio.getD i 0).toNat ∨
          (s.intc.prio.getD j 0 = s.intc.prio.getD i 0 ∧ i ≤ j) := by
  have hsrc {k : Nat} {x : Source} : (sources .intc s)[k]? = some x ↔
      k < s.cfg.nIrqSrc ∧ (⟨s.intc.enable.getLsbD k, s.intc.pending.getLsbD k, s.intc.prio.getD k 0⟩ : Source) = x := by
    rw [sources_intc_getElem?, Option.ite_none_right_eq_some, Option.some_inj]
  rw [intcWinner, winner_eq_some_iff]
  constructor
  · rintro ⟨x, hx, hen, hpend, hbest⟩
    obtain ⟨hi, rfl⟩ := hsrc.mp hx
    exact ⟨hi, hen, hpend, fun j hj => hbest j _ (hsrc.mpr ⟨hj, rfl⟩)⟩
  · rintro ⟨hi, hen, hpend, hbest⟩
    refine ⟨_, hsrc.mpr ⟨hi, rfl⟩, hen, hpend, fun j y hy => ?_⟩
    obtain ⟨hj, rfl⟩ := hsrc.mp hy
    exact hbest j hj

theorem getLsbD_setBit {i : Nat} (hi : i < 32) (v : Word) (b : Bool) (j : Nat) :
    (setBit v i b).getLsbD j = if j = i then b else v.getLsbD j := by
  have hone : ((1 : Word) <<< i).getLsbD j = decide (j = i) := by
    have h := getLsbD_flagAt true i j
    rw [show flagAt true i = (1 : Word) <<< i from rfl] at h
    rw [h, Bool.and_true]
    by_cases hj : j = i <;> simp [hj, hi]
  cases b with
  | true =>
    rw [setBit, if_pos rfl, BitVec.getLsbD_or, hone]
    by_cases hj : j = i <;> simp [hj]
  | false =>
    rw [setBit, if_neg Bool.false_ne_true, BitVec.getLsbD_and, BitVec.getLsbD_not, hone]
    by_cases hj : j = i
    · simp [hj]
    · have hlt : v.getLsbD j = true → j < 32 := BitVec.lt_of_getLsbD
      cases hv : v.getLsbD j <;> simp_all

/-! ## The settled statements -/

/-- Settles O19. -/
theorem lineSetNotifiesChanges : Obligations.LineSetNotifiesChanges := by
  intro L level s
  obtain ⟨hline, hothers, htrace, hrest⟩ := lineSet_effect L level .nothing s
  refine ⟨_, rfl, hline, hothers, htrace.trans ?_, hrest, rfl⟩
  rw [lineNotice_ret, lineNotice_lineSet]

/-- Settles O20: the line is set to `orOf`. -/
theorem orAggregationDrivesLine : Obligations.OrAggregationDrivesLine := by
  intro L ss s
  obtain ⟨hline, hothers, htrace, hrest⟩ := lineSet_effect L (orOf ss) .nothing s
  exact ⟨_, rfl, by rw [hline, orOf_iff], hothers, htrace, hrest, rfl⟩

/-- Settles O21: the line is set to whether there is a winner, and the winner is the elected source. -/
theorem priorityWinnerIsHighestThenLowest : Obligations.PriorityWinnerIsHighestThenLowest := by
  intro L ss s
  obtain ⟨hline, hothers, htrace, hrest⟩ := lineSet_effect L (winner ss).isSome (.winner (winner ss)) s
  exact ⟨_, winner ss, rfl, rfl, hline, hothers, htrace, hrest, winner_eq_none_iff ss, winner_eq_some_iff ss⟩

/-- Settles O22. -/
theorem snapshotBitIsPending : Obligations.SnapshotBitIsPending := by
  intro ss s hlen
  refine ⟨snapshot ss, rfl, fun i => ?_⟩
  rw [getLsbD_snapshot hlen]
  cases ss[i]? <;> rfl

/-- Settles O23: a recomputed line is settled, and the table of R200 window by window. -/
theorem updateInterruptsIsIdempotent : Obligations.UpdateInterruptsIsIdempotent := by
  intro w s
  exact ⟨updateInterrupts_idem w s, lineOf_updateInterrupts w s, lineLevel_gpio_iff s, lineLevel_uart_iff s,
    lineLevel_uart16550_iff s, lineLevel_spi_iff s, lineLevel_i2c_iff s, lineLevel_timer_iff s, lineLevel_dma_iff s,
    lineLevel_intc_iff s⟩

/-- Settles O59: the event writes one pending bit and ends in the hook, which settles the line on the winner. -/
theorem sourceEventMirrorsLevel : Obligations.SourceEventMirrorsLevel := by
  intro src level s hsrcs
  constructor
  · intro hbad
    simp only [exec, execEvIntcSrc, if_pos hbad]
    rfl
  · intro hsrc
    obtain ⟨t, hnext, hintc, hframe⟩ :=
      hook_intc s { s.intc with pending := setBit s.intc.pending src.toNat level }
    obtain ⟨_, _, ⟨hline, _⟩, _⟩ := id hframe
    have hexec : exec (.evIntcSrc src level) s = .next t := by
      simp only [exec, execEvIntcSrc, if_neg (Nat.not_le.mpr hsrc)]
      exact hnext
    refine ⟨t, hexec, hframe, by rw [hintc], fun k => ?_, hline, ?_, intcWinner_eq_some_iff t⟩
    · rw [hintc]
      exact getLsbD_setBit (by omega) _ _ k
    · rw [hline]
      exact lineLevel_intc_iff t

end Sys2Proof.Machine
end

section
/-! Notifications (R191, R200, R491): what a stimulus does before the hook is quiet, it moves no line and notifies nothing
(`Quiet`); the hook notifies at most once, last (`NotifiesLast`). -/

namespace Sys2Proof.Machine

/-! ## Quiet operations -/

/-- From `s` to `t` no line moves, and what is emitted holds no notification. -/
structure Quiet (s t : State) : Prop where
  lines : t.lines = s.lines
  trace : ∃ outs, t.trace = s.trace ++ outs ∧ ∀ o ∈ outs, isNotify o = false

section
variable {s t u : State}

/-- An update of the components alone is quiet. -/
theorem Quiet.of_eq (hlines : t.lines = s.lines) (htrace : t.trace = s.trace) : Quiet s t :=
  ⟨hlines, [], by rw [htrace, List.append_nil], List.forall_mem_nil _⟩

theorem Quiet.refl (s : State) : Quiet s s := .of_eq rfl rfl

theorem Quiet.trans (h : Quiet s t) (h' : Quiet t u) : Quiet s u := by
  obtain ⟨hlines, outs, htrace, hno⟩ := h
  obtain ⟨hlines', outs', htrace', hno'⟩ := h'
  refine ⟨hlines'.trans hlines, outs ++ outs', by rw [htrace', htrace, List.append_assoc], ?_⟩
  exact List.forall_mem_append.mpr ⟨hno, hno'⟩

theorem Quiet.ite {p : Prop} [Decidable p] (h : Quiet s t) (h' : Quiet s u) : Quiet s (if p then t else u) := by
  split
  · exact h
  · exact h'

theorem Quiet.lineOf_eq (h : Quiet s t) (w : Window) : lineOf w t = lineOf w s := by
  cases w <;> simp only [lineOf, h.lines]

theorem quiet_emit {o : Output} (h : isNotify o = false) : Quiet s (emit o s) :=
  ⟨rfl, [o], rfl, List.forall_mem_singleton.mpr h⟩

theorem quiet_warn (c : Warning) : Quiet s (warn c s) := quiet_emit rfl

theorem quiet_setPort (x : Serial) (p : Port) : Quiet s (setPort x p s) := .of_eq (setPort_lines ..) (setPort_trace ..)

theorem quiet_setFifo (q : FifoId) (b : List Byte) : Quiet s (setFifo q b s) := .of_eq (setFifo_lines ..) (setFifo_trace ..)

theorem quiet_clearFifo (q : FifoId) : Quiet s (clearFifo q s) := quiet_setFifo q []

theorem quiet_clearOverrun (x : Serial) : Quiet s (clearOverrun x s) := quiet_setPort x _

theorem quiet_portReset (x : Serial) : Quiet s (portReset x s) := quiet_setPort x _

theorem quiet_rbReset (w : Window) : Quiet s (rbReset w s) :=
  have ⟨_, _, _, htrace⟩ := rbReset_frame w s
  .of_eq (by cases w <;> rfl) htrace

theorem quiet_modifyCmp (k : Nat) (f : Cmp → Cmp) : Quiet s (modifyCmp k f s) := by
  unfold modifyCmp
  split
  · exact .of_eq rfl rfl
  · exact .refl s

theorem quiet_modifyChan (n : Nat) (f : DmaChannel → DmaChannel) : Quiet s (modifyChan n f s) := by
  unfold modifyChan
  split
  · exact .of_eq rfl rfl
  · exact .refl s

end

/-! ## The serial core -/

theorem quiet_rxPush (x : Serial) (b : Byte) (s : State) : Quiet s (rxPush x b s) := by
  by_cases hfull : (portOf x s).rx.length = s.cfg.fifoCap
  · rw [rxPush_full b hfull]
    split
    · exact (quiet_warn .overrun).trans (quiet_setPort x _)
    · exact quiet_warn .overrun
  · rw [rxPush_room b hfull]
    exact quiet_setPort x _

theorem quiet_drainByte (x : Serial) (b : Byte) (s : State) : Quiet s (drainByte x b s) :=
  .ite ((quiet_emit rfl).trans (quiet_rxPush ..)) (quiet_emit rfl)

theorem quiet_drainBytes (x : Serial) : ∀ (bs : List Byte) (s : State), Quiet s (drainBytes x bs s)
  | [], s => .refl s
  | b :: bs, s => (quiet_drainByte x b s).trans (quiet_drainBytes x bs _)

theorem quiet_drainIfOn (x : Serial) (s : State) : Quiet s (drainIfOn x s) :=
  .ite ((quiet_setFifo ⟨x, .tx⟩ []).trans (quiet_drainBytes ..)) (.refl s)

theorem quiet_serDataWrite (x : Serial) (b : Byte) (s : State) : Quiet s (serDataWrite x b s) :=
  have hpush : Quiet s (pushFifo ⟨x, .tx⟩ b s).2 := quiet_setFifo ⟨x, .tx⟩ _
  (Quiet.ite hpush (hpush.trans (quiet_warn .txDrop))).trans (quiet_drainIfOn x _)

theorem quiet_serDataRead (x : Serial) (s : State) : Quiet s (serDataRead x s).2 := by
  cases hrx : (portOf x s).rx with
  | nil =>
    rw [serDataRead_nil hrx]
    exact quiet_warn .rxEmpty
  | cons b bs =>
    rw [serDataRead_cons hrx]
    exact quiet_setPort x _

theorem quiet_serRxChar (x : Serial) (b : Byte) (s : State) : Quiet s (serRxChar x b s) :=
  .ite (quiet_rxPush ..) (.refl s)

/-! ## The fields of the bank -/

theorem quiet_fieldEffect (f : FieldId) (s : State) : Quiet s (fieldEffect f s) := by
  unfold fieldEffect
  split
  · exact quiet_serDataRead ..
  · exact quiet_serDataRead ..
  · exact quiet_clearOverrun .uart16550
  · exact .refl s

theorem quiet_readSteps : ∀ (fs : List FieldId) (p : Word × State), Quiet p.2 (fs.foldl readStep p).2
  | [], p => .refl p.2
  | f :: fs, p => (quiet_fieldEffect f p.2).trans (quiet_readSteps fs (readStep p f))

theorem quiet_applyField (f : FieldId) (sub : Word) (s : State) : Quiet s (applyField f sub s) := by
  cases f with
  | data x => exact quiet_serDataWrite x _ s
  | thr => exact quiet_serDataWrite .uart16550 _ s
  | overrun x => exact .ite (quiet_clearOverrun x) (.refl s)
  | uartDiv | i2cDiv | timerPrescaler => exact .ite (quiet_warn _) (.of_eq rfl rfl)
  | fcrRxClr | fcrTxClr => exact .ite (quiet_clearFifo _) (.refl s)
  | timerOvf => exact .ite (.of_eq rfl rfl) (.refl s)
  | cmpTarget k | cmpEn k => exact quiet_modifyCmp k _
  | cmpPend k => exact .ite (quiet_modifyCmp k _) (.refl s)
  | chSrc n | chDst n | chCount n | chEn n | chIe n => exact quiet_modifyChan n _
  | chIf n => exact .ite (quiet_modifyChan n _) (.refl s)
  | _ => exact .of_eq rfl rfl

theorem quiet_writeSteps (v : Word) : ∀ (fs : List FieldId) (s : State), Quiet s (fs.foldl (writeStep v) s)
  | [], s => .refl s
  | f :: fs, s => (quiet_applyField f _ s).trans (quiet_writeSteps v fs _)

/-! ## One notification, last -/

/-- From `s` to `t` the trace grows by outputs that are no notification, then by the notification of `w`'s line if its level
is another. -/
def NotifiesLast (w : Window) (s t : State) : Prop :=
  ∃ outs, t.trace = s.trace ++ outs ++ lineNotice w s t ∧ ∀ o ∈ outs, isNotify o = false

/-- Every next state that an outcome answers has at most one notification, last. -/
def NotifiesLastTo (w : Window) (s : State) (o : Host.Outcome State Fault Refusal) : Prop :=
  ∀ t, o = .next t → NotifiesLast w s t

/-- Every next state that an outcome answers is, once the line of `w` is recomputed, one that a quiet operation and the
recomputation reach: a transfer recomputes the line itself, before the hook does so again. -/
def QuietToHook (w : Window) (s : State) (o : Host.Outcome State Fault Refusal) : Prop :=
  ∀ t, o = .next t → ∃ u, Quiet s u ∧ updateInterrupts w t = updateInterrupts w u

section
variable {w : Window} {s t : State} {o : Host.Outcome State Fault Refusal}

theorem Quiet.notifiesLast_ret (h : Quiet s t) (r : Result) : NotifiesLast w s (ret r t) := by
  obtain ⟨outs, htrace, hno⟩ := h.trace
  refine ⟨outs, ?_, hno⟩
  rw [lineNotice_ret, lineNotice, if_pos (h.lineOf_eq w), List.append_nil]
  exact htrace

theorem Quiet.notifiesLast_updateInterrupts (h : Quiet s t) (r : Result) :
    NotifiesLast w s (ret r (updateInterrupts w t)) := by
  obtain ⟨outs, htrace, hno⟩ := h.trace
  refine ⟨outs, ?_, hno⟩
  rw [lineNotice_ret, ret_trace, updateInterrupts, lineSet_trace, htrace, lineNotice, lineNotice, h.lineOf_eq w]

theorem Quiet.to_done (h : Quiet s t) : NotifiesLastTo w s (done t) := by
  rintro _ ⟨⟩
  exact h.notifiesLast_ret .nothing

theorem Quiet.to_doneWord (h : Quiet s t) (v : Word) : NotifiesLastTo w s (doneWord v t) := by
  rintro _ ⟨⟩
  exact h.notifiesLast_ret (.word v)

theorem Quiet.to_hook (h : Quiet s t) : NotifiesLastTo w s (hook w t) := by
  rintro _ ⟨⟩
  exact h.notifiesLast_updateInterrupts .nothing

theorem Quiet.to_postRead (h : Quiet s t) (v : Word) : NotifiesLastTo w s (doneWord v (updateInterrupts w t)) := by
  rintro _ ⟨⟩
  exact h.notifiesLast_updateInterrupts (.word v)

theorem notifiesLastTo_pureRead (v : Word) : NotifiesLastTo w s (doneWord v s) := (Quiet.refl s).to_doneWord v

theorem notifiesLastTo_unmatchedRead (off : Nat) : NotifiesLastTo w s (unmatchedRead off s) := (quiet_warn _).to_doneWord 0

theorem notifiesLastTo_unmatchedWrite (off : Nat) : NotifiesLastTo w s (unmatchedWrite off s) := (quiet_warn _).to_done

theorem Quiet.quietToHook_next (h : Quiet s t) : QuietToHook w s (.next t) := by
  rintro _ ⟨⟩
  exact ⟨t, h, rfl⟩

theorem Quiet.quietToHook_after (h : Quiet s t) (ho : QuietToHook w t o) : QuietToHook w s o := fun u hu =>
  have ⟨v, hv, heq⟩ := ho u hu
  ⟨v, h.trans hv, heq⟩

theorem QuietToHook.andThen_hook (h : QuietToHook w s o) : NotifiesLastTo w s (andThen o (hook w)) := by
  intro u hu
  obtain ⟨t, ht, hu⟩ := andThen_eq_next.mp hu
  obtain ⟨v, hv, heq⟩ := h t ht
  rw [hook, heq] at hu
  exact hv.to_hook u hu

end

/-! ## The DMA request -/

theorem quiet_dmaTransfer (n : Nat) (c : DmaChannel) (s : State) : Quiet s (dmaTransfer n c s) :=
  have hcopy : Quiet s (emit (.memcopy c.src c.dst c.count) { s with mem := memCopy s.mem c.src c.dst c.count }) :=
    ⟨rfl, [.memcopy c.src c.dst c.count], rfl, List.forall_mem_singleton.mpr rfl⟩
  .ite (hcopy.trans (.of_eq rfl rfl)) hcopy

theorem quietToHook_dchTrigger (n : Nat) (c : DmaChannel) (s : State) : QuietToHook .dma s (dchTrigger n c s) := by
  rcases dchTrigger_cases n c s with ⟨_, h⟩ | ⟨_, _, _, h⟩ | ⟨_, _, _, h⟩ <;> rw [h]
  · exact (Quiet.refl s).quietToHook_next
  · rintro _ ⟨⟩
  · rintro _ ⟨⟩
    exact ⟨_, quiet_dmaTransfer n c s, updateInterrupts_idem .dma _⟩

theorem quietToHook_dmaRequest (n : Nat) (s : State) : QuietToHook .dma s (dmaRequest n s) := by
  rcases dmaRequest_cases n s with ⟨_, h⟩ | ⟨c, _, _, h⟩ | ⟨c, _, _, h⟩ <;> rw [h]
  · exact (quiet_warn _).quietToHook_next
  · exact (Quiet.refl s).quietToHook_next
  · exact quietToHook_dchTrigger n c s

/-! ## The stimuli to a window -/

theorem notifiesLastTo_gpioExtRead (off : Nat) (x : Word) (s : State) : NotifiesLastTo .gpio s (gpioExtRead off x s) := by
  unfold gpioExtRead
  split
  · exact notifiesLastTo_pureRead _
  · exact notifiesLastTo_unmatchedRead off

theorem notifiesLastTo_gpioExtWrite (off : Nat) (g : Gpio) (s : State) : NotifiesLastTo .gpio s (gpioExtWrite off g s) := by
  unfold gpioExtWrite
  split
  · exact Quiet.to_hook (.of_eq rfl rfl)
  · exact notifiesLastTo_unmatchedWrite off

theorem notifiesLastTo_rbRead (w : Window) (off : Nat) (s : State) : NotifiesLastTo w s (rbRead w off s) := by
  unfold rbRead
  split
  · exact notifiesLastTo_unmatchedRead off
  next r _ =>
    have hread := quiet_readSteps r.fields (0, s)
    dsimp only
    split
    · exact hread.to_postRead _
    · exact hread.to_doneWord _

theorem quietToHook_hookAction (w : Window) (off : Nat) (v : Word) (s : State) : QuietToHook w s (hookAction w off v s) := by
  cases w with
  | uart | spi | i2c => exact (Quiet.ite (quiet_drainIfOn ..) (.refl s)).quietToHook_next
  | dma =>
    simp only [hookAction]
    split
    · exact quietToHook_dmaRequest _ s
    · exact (Quiet.refl s).quietToHook_next
  | gpio | uart16550 | timer | intc => exact (Quiet.refl s).quietToHook_next

theorem notifiesLastTo_rbWrite (w : Window) (off : Nat) (v : Word) (s : State) : NotifiesLastTo w s (rbWrite w off v s) := by
  unfold rbWrite
  split
  · exact notifiesLastTo_unmatchedWrite off
  next r _ =>
    exact ((quiet_writeSteps v r.fields s).quietToHook_after (quietToHook_hookAction w off v _)).andThen_hook

theorem notifiesLastTo_wrDmaChCtrl (n : BitVec 3) (v : Word) (s : State) :
    NotifiesLastTo .dma s (execWrDmaChCtrl n v s) := by
  unfold execWrDmaChCtrl
  split
  next c _ =>
    have hstore : Quiet s (setChan s n.toNat (setChanCtrl v c)) := .of_eq rfl rfl
    refine (hstore.quietToHook_after ?_).andThen_hook
    split
    · exact quietToHook_dmaRequest _ _
    · exact (Quiet.refl _).quietToHook_next
  · exact notifiesLastTo_unmatchedWrite _

theorem notifiesLastTo_wrUart16550Fcr (v : Word) (s : State) : NotifiesLastTo .uart16550 s (execWrUart16550Fcr v s) := by
  have clear (dir : FifoDir) (b : Bool) (t : State) : Quiet t (if b then clearFifo ⟨.uart16550, dir⟩ t else t) :=
    .ite (quiet_clearFifo _) (.refl t)
  have hstore : Quiet s { s with u16 := { s.u16 with fifoEn := v.getLsbD 0 } } := .of_eq rfl rfl
  exact Quiet.to_hook (((hstore.trans (clear .rx _ _)).trans (clear .tx _ _)).trans (.of_eq rfl rfl))

/-- A stimulus to a window is quiet up to the recomputation of its line, which comes last (R150, R151, R200). -/
theorem exec_notifiesLast {i : Instr} {w : Window} (s : State) (hw : stimulusWindow i = some w) :
    NotifiesLastTo w s (exec i s) := by
  cases i <;> cases hw
  case rdGpioData | rdGpioDir | rdUartStatus | rdUartControl | rdUartBaud | rdUart16550Dll | rdUart16550Ier | rdUart16550Dlh |
      rdUart16550Iir | rdUart16550Lcr | rdSpiControl | rdSpiStatus | rdI2cControl | rdI2cStatus | rdI2cClockDiv |
      rdTimerControl | rdTimerValue | rdTimerReload | rdTimerPrescaler | rdTimerStatus | rdDmaControl | rdIntcEnable |
      rdIntcPending =>
    exact notifiesLastTo_pureRead _
  case wrGpioData | wrGpioDir | wrUart16550Dll | wrUart16550Ier | wrUart16550Dlh | wrUart16550Lcr | wrUart16550Lsr |
      evUart16550SetMap | wrTimerControl | wrTimerValue | wrTimerReload | evTimerTick | wrDmaControl | wrIntcEnable |
      wrIntcPending =>
    exact Quiet.to_hook (.of_eq rfl rfl)
  case rdGpioIe | rdGpioIs | rdGpioIt | rdGpioIp | rdGpioEdge => exact notifiesLastTo_gpioExtRead _ _ s
  case wrGpioIe | wrGpioIs | wrGpioIt | wrGpioIp | wrGpioEdge => exact notifiesLastTo_gpioExtWrite _ _ s
  case evGpioPin | evIntcSrc =>
    simp only [exec, execEvGpioPin, execEvIntcSrc]
    split
    · exact (quiet_warn _).to_done
    · exact Quiet.to_hook (.of_eq rfl rfl)
  case evGpioReset | evTimerReset | evDmaReset | evIntcReset =>
    exact Quiet.to_hook ((quiet_rbReset _).trans (.of_eq rfl rfl))
  case evUartReset | evSpiReset | evI2cReset => exact Quiet.to_hook ((quiet_rbReset _).trans (quiet_portReset _))
  case evUart16550Reset =>
    exact Quiet.to_hook (((quiet_rbReset .uart16550).trans (quiet_portReset .uart16550)).trans (.of_eq rfl rfl))
  case rdUartData | rdUart16550Rbr | rdSpiData | rdI2cData => exact (quiet_serDataRead _ s).to_postRead _
  case rdUart16550Lsr => exact (quiet_clearOverrun .uart16550).to_postRead _
  case wrUartData | wrUart16550Thr | wrSpiData | wrI2cData => exact Quiet.to_hook (quiet_serDataWrite _ _ s)
  case wrUartStatus | wrSpiStatus | wrI2cStatus => exact Quiet.to_hook (.ite (quiet_clearOverrun _) (.refl s))
  case wrUartControl | wrSpiControl | wrI2cControl =>
    refine Quiet.to_hook (Quiet.trans ?_ (quiet_drainIfOn _ _))
    exact .of_eq rfl rfl
  case wrUartBaud | wrI2cClockDiv | wrTimerPrescaler => exact Quiet.to_hook (.ite (quiet_warn .zeroDiv) (.of_eq rfl rfl))
  case evUartRxChar | evUart16550RxChar | evSpiRxChar | evI2cRxChar => exact Quiet.to_hook (quiet_serRxChar _ _ s)
  case wrUart16550Fcr => exact notifiesLastTo_wrUart16550Fcr _ s
  case wrTimerStatus => exact Quiet.to_hook (.ite (.of_eq rfl rfl) (.refl s))
  case rdTimerCmpTarget | rdTimerCmpCtrl | rdDmaChSrc | rdDmaChDst | rdDmaChCount | rdDmaChCtrl | rdIntcPriority =>
    simp only [exec, execRdTimerCmpTarget, execRdTimerCmpCtrl, execRdDmaChSrc, execRdDmaChDst, execRdDmaChCount,
      execRdDmaChCtrl, execRdIntcPriority]
    split
    · exact notifiesLastTo_pureRead _
    · exact notifiesLastTo_unmatchedRead _
  case wrTimerCmpTarget | wrTimerCmpCtrl | wrDmaChSrc | wrDmaChDst | wrDmaChCount | wrIntcPriority =>
    simp only [exec, execWrTimerCmpTarget, execWrTimerCmpCtrl, execWrDmaChSrc, execWrDmaChDst, execWrDmaChCount,
      execWrIntcPriority]
    split
    · exact Quiet.to_hook (.of_eq rfl rfl)
    · exact notifiesLastTo_unmatchedWrite _
  case wrDmaChCtrl => exact notifiesLastTo_wrDmaChCtrl _ _ s
  case evDmaReq => exact (quietToHook_dmaRequest _ s).andThen_hook
  case opRbRead => exact notifiesLastTo_rbRead _ _ s
  case opRbWrite => exact notifiesLastTo_rbWrite _ _ _ s

/-- Settles O25: `exec_notifiesLast`, with the notification read off `lineNotice`. -/
theorem atMostOneNotificationAndLast : Obligations.AtMostOneNotificationAndLast := by
  intro i w s t hw hexec
  obtain ⟨outs, htrace, hno⟩ := exec_notifiesLast s hw t hexec
  refine ⟨outs, lineNotice w s t, htrace, hno, ?_⟩
  by_cases hline : lineOf w t = lineOf w s
  · exact .inl (if_pos hline)
  · exact .inr ⟨if_neg hline, hline⟩

end Sys2Proof.Machine
end

section
/-! The timer channel beyond one tick: what starting, stopping and evaluating a compare channel do (R222, R223, R230), and where
a Periodic channel stands after any number of ticks (R226, R227). -/

namespace Sys2Proof.Machine

/-! ## Start, stop and compare (R222, R223, R230) -/

theorem tchStart_running {t : Timer} (a : Bool) (h : t.running = true) : tchStart a t = t := if_pos h

theorem tchStart_idle {t : Timer} (a : Bool) (h : t.running = false) :
    tchStart a t = { t with running := true, prescCnt := 0, cmp := rearm a t.cmp } := if_neg (Bool.eq_false_iff.mp h)

theorem exec_opTchStart (s : State) :
    exec .opTchStart s = .next { s with timer := tchStart s.cfg.cmpArmOnce s.timer, result := .nothing } := rfl

section
variable {s : State} {k : BitVec 16} {c : Cmp}

theorem setCmp_cmpAt {k : Nat} (h : cmpAt s k = some c) : setCmp s k c = s := by
  obtain ⟨_, hentry⟩ := cmpAt_eq_some.mp h
  obtain ⟨hk, rfl⟩ := List.getElem?_eq_some_iff.mp hentry
  simp only [setCmp, List.set_getElem_self]

theorem exec_opCmpEval_of_cmpAt (h : cmpAt s k.toNat = some c) :
    exec (.opCmpEval k) s =
      .next { setCmp s k.toNat (cmpEval s.cfg.cmpArmOnce s.timer.value c) with result := .nothing } := by
  simp only [exec, execOpCmpEval, h]
  rfl

theorem exec_opCmpEval_absent (h : s.cfg.nCmp ≤ k.toNat) :
    exec (.opCmpEval k) s =
      .next { s with trace := s.trace ++ [.warn (.badChannel k.toNat)], result := .nothing } := by
  simp only [exec, execOpCmpEval, cmpAt_none h]
  rfl

end

/-- Settles O52: the two cases of the start, and `cmpEval_eq` for the channel that is evaluated. -/
theorem startStopAndCompareOperations : Obligations.StartStopAndCompareOperations := by
  intro k c s
  refine ⟨fun hrun => ?running, fun hidle => ?idle, rfl, fun hc => ⟨fun hmatch => ?hit, fun hmiss => ?miss⟩,
    exec_opCmpEval_absent⟩
  case running => rw [exec_opTchStart, tchStart_running _ hrun]
  case idle =>
    rw [exec_opTchStart, tchStart_idle _ hidle]
    rfl
  case hit => rw [exec_opCmpEval_of_cmpAt hc, cmpEval_eq, if_pos hmatch]
  case miss => rw [exec_opCmpEval_of_cmpAt hc, cmpEval_eq, if_neg hmiss, setCmp_cmpAt hc]

/-! ## Counting in quotient and remainder -/

section
variable {m n : Nat}

theorem divMod_succ_inside (hm : 0 < m) (h : n % m + 1 < m) : (n + 1) / m = n / m ∧ (n + 1) % m = n % m + 1 :=
  (Nat.div_mod_unique hm).mpr ⟨by have := Nat.mod_add_div n m; omega, h⟩

theorem divMod_succ_wrap (hm : 0 < m) (h : m ≤ n % m + 1) : (n + 1) / m = n / m + 1 ∧ (n + 1) % m = 0 := by
  have hlast : n % m + 1 = m := Nat.le_antisymm (Nat.mod_lt n hm) h
  refine (Nat.div_mod_unique hm).mpr ⟨?_, hm⟩
  calc 0 + m * (n / m + 1) = (n % m + m * (n / m)) + 1 := by rw [Nat.mul_succ]; omega
    _ = n + 1 := by rw [Nat.mod_add_div]

end

/-! ## The phase of a Periodic channel (R226, R227) -/

/-- A running Periodic channel of limit `L` and prescaler `P` that has advanced `advances` times since a fresh start and counted
`dwell` ticks since the last advance. -/
structure PeriodicPhase (L P : Word) (advances dwell : Nat) (t : Timer) : Prop where
  running   : t.running = true
  periodic  : t.oneshot = false
  limit     : t.limit = L
  prescaler : t.prescaler = P
  value     : t.value.toNat = advances % L.toNat
  prescCnt  : t.prescCnt = dwell
  overflow  : t.ovfPending = true ↔ L.toNat ≤ advances

namespace PeriodicPhase
variable {L P : Word} {q r n : Nat} {t : Timer}

theorem of_fresh (hrun : t.running = true) (hone : t.oneshot = false) (hovf : t.ovfPending = false) (hvalue : t.value = 0)
    (hcnt : t.prescCnt = 0) (hlimit : 1 ≤ t.limit.toNat) : PeriodicPhase t.limit t.prescaler 0 0 t :=
  ⟨hrun, hone, rfl, rfl, by rw [hvalue, Nat.zero_mod]; rfl, hcnt,
    iff_of_false (Bool.eq_false_iff.mp hovf) (Nat.not_le_of_gt hlimit)⟩

/-- The phase says nothing of the compare channels. -/
theorem withCmp (h : PeriodicPhase L P q r t) (cs : List Cmp) : PeriodicPhase L P q r { t with cmp := cs } :=
  ⟨h.running, h.periodic, h.limit, h.prescaler, h.value, h.prescCnt, h.overflow⟩

theorem withPrescCnt (h : PeriodicPhase L P q r t) (r' : Nat) : PeriodicPhase L P q r' { t with prescCnt := r' } :=
  ⟨h.running, h.periodic, h.limit, h.prescaler, h.value, rfl, h.overflow⟩

/-- One advance: below the limit the value counts up, at the limit it wraps to 0 and raises the overflow. -/
theorem advance (h : PeriodicPhase L P q r t) (hL : 1 ≤ L.toNat) (a : Bool) :
    PeriodicPhase L P (q + 1) r (tchAdvance a t) := by
  obtain ⟨hrun, hone, rfl, hpre, hvalue, hcnt, hovf⟩ := h
  by_cases hbelow : t.value.toNat + 1 < t.limit.toNat
  · obtain ⟨-, hmod⟩ := divMod_succ_inside hL (hvalue ▸ hbelow)
    have hsum : (t.value + 1).toNat = t.value.toNat + 1 := by bv_omega
    have hreached : t.limit.toNat ≤ q ↔ t.limit.toNat ≤ q + 1 := by
      refine ⟨Nat.le_succ_of_le, fun hle => Nat.le_of_not_lt fun hlt => ?_⟩
      rw [Nat.mod_eq_of_lt hlt] at hvalue
      omega
    rw [tchAdvance_below a hbelow]
    exact ⟨hrun, hone, rfl, hpre, by rw [hsum, hvalue, hmod], hcnt, hovf.trans hreached⟩
  · have hlast := Nat.le_of_not_lt hbelow
    obtain ⟨-, hmod⟩ := divMod_succ_wrap hL (hvalue ▸ hlast)
    have hreached : t.limit.toNat ≤ q + 1 :=
      hlast.trans (Nat.succ_le_succ (hvalue ▸ Nat.mod_le q _))
    rw [tchAdvance_wrap a hlast hone]
    exact ⟨hrun, hone, rfl, hpre, hmod.symm, hcnt, iff_of_true rfl hreached⟩

/-- One tick: the `n + 1`-st tick advances where it ends a dwell of `P` ticks. -/
theorem tick (h : PeriodicPhase L P (n / P.toNat) (n % P.toNat) t) (hL : 1 ≤ L.toNat) (hP : 1 ≤ P.toNat) (a : Bool) :
    PeriodicPhase L P ((n + 1) / P.toNat) ((n + 1) % P.toNat) (tchTick a t) := by
  rw [tchTick_running a h.running]
  refine withCmp ?_ _
  by_cases hdwell : n % P.toNat + 1 < P.toNat
  · obtain ⟨hdiv, hmod⟩ := divMod_succ_inside hP hdwell
    rw [tchCount_dwell a (by rwa [h.prescaler, h.prescCnt]), hdiv, hmod, h.prescCnt]
    exact h.withPrescCnt _
  · have hdue := Nat.le_of_not_lt hdwell
    obtain ⟨hdiv, hmod⟩ := divMod_succ_wrap hP hdue
    rw [tchCount_advance a (by rwa [h.prescaler, h.prescCnt]), hdiv, hmod]
    exact (h.withPrescCnt 0).advance hL a

end PeriodicPhase

theorem exec_evTimerTick (s : State) :
    ∃ t, exec .evTimerTick s = .next t ∧ t.timer = tchTick s.cfg.cmpArmOnce s.timer := by
  obtain ⟨t, hexec, htimer, -⟩ := hook_timer s (tchTick s.cfg.cmpArmOnce s.timer)
  exact ⟨t, hexec, htimer⟩

/-- From the phase of tick `n`, `m` more ticks lead to the phase of tick `n + m`. -/
theorem execAll_ticks_periodicPhase {L P : Word} (hL : 1 ≤ L.toNat) (hP : 1 ≤ P.toNat) (m : Nat) {n : Nat} {s : State}
    (h : PeriodicPhase L P (n / P.toNat) (n % P.toNat) s.timer) :
    ∃ t, execAll (ticks m) s = .next t ∧ PeriodicPhase L P ((n + m) / P.toNat) ((n + m) % P.toNat) t.timer := by
  induction m generalizing n s with
  | zero => exact ⟨s, rfl, h⟩
  | succ m ih =>
    obtain ⟨s1, hexec, htimer⟩ := exec_evTimerTick s
    have hnext : PeriodicPhase L P ((n + 1) / P.toNat) ((n + 1) % P.toNat) s1.timer := htimer ▸ h.tick hL hP _
    obtain ⟨t, hrun, hphase⟩ := ih hnext
    refine ⟨t, (execAll_cons_of_next hexec _).trans hrun, ?_⟩
    rwa [Nat.add_right_comm, Nat.add_assoc] at hphase

/-- Settles O53: `execAll_ticks_periodicPhase` from the fresh start; `n / prescaler` reaches the limit from
`limit * prescaler` ticks on. -/
theorem periodicTimerPeriodIsLimitTimesPrescaler : Obligations.PeriodicTimerPeriodIsLimitTimesPrescaler := by
  intro n s hrun hone hovf hvalue hcnt hL hP
  have hfresh := PeriodicPhase.of_fresh hrun hone hovf hvalue hcnt hL
  obtain ⟨t, hexec, hphase⟩ := execAll_ticks_periodicPhase hL hP n (n := 0) (s := s) (by simpa using hfresh)
  rw [Nat.zero_add] at hphase
  exact ⟨t, hexec, hphase.running, hphase.value, hphase.prescCnt, hphase.overflow.trans (Nat.le_div_iff_mul_le hP)⟩

end Sys2Proof.Machine
end

section
/-! The DMA window: its registers one by one, and the transfer, stated once for the channel as the request finds it stored. -/

namespace Sys2Proof.Machine

/-! ## The registers (R443 to R452) -/

theorem chanCtrlWord_reserved (c : DmaChannel) : (flagAt c.enabled 0 ||| flagAt c.ie 2 ||| flagAt c.pending 3) >>> 4 = 0 := by
  refine BitVec.eq_of_getLsbD_eq fun j _ => ?_
  simp [getLsbD_flagAt, show 4 + j ≠ 2 by omega, show 4 + j ≠ 3 by omega]

/-- A stimulus that stores a component state of the DMA and ends in the hook does that and no more. -/
theorem exec_framed_of_hook_dma {i : Instr} {s : State} {x : Dma} (h : exec i s = hook .dma { s with dma := x }) :
    ∃ t, exec i s = .next t ∧ Framed .dma [] .nothing s t ∧ t.dma = x := by
  obtain ⟨t, hhook, hdma, hframed⟩ := hook_dma s x
  exact ⟨t, h.trans hhook, hframed, hdma⟩

section
variable {n : BitVec 3} {m : BitVec 16} {c : DmaChannel} {s : State}

theorem readsAs_dmaCh (hc : chanAt s n.toNat = some c) :
    ReadsAs (.rdDmaChSrc n) s c.src ∧ ReadsAs (.rdDmaChDst n) s c.dst ∧ ReadsAs (.rdDmaChCount n) s c.count ∧
      ReadsAs (.rdDmaChCtrl n) s (flagAt c.enabled 0 ||| flagAt c.ie 2 ||| flagAt c.pending 3) := by
  simp only [ReadsAs, exec, execRdDmaChSrc, execRdDmaChDst, execRdDmaChCount, execRdDmaChCtrl, hc]
  exact ⟨rfl, rfl, rfl, rfl⟩

theorem exec_wrDmaCh_address (v : Word) (hc : chanAt s n.toNat = some c) :
    exec (.wrDmaChSrc n v) s = hook .dma (setChan s n.toNat { c with src := v }) ∧
      exec (.wrDmaChDst n v) s = hook .dma (setChan s n.toNat { c with dst := v }) ∧
      exec (.wrDmaChCount n v) s = hook .dma (setChan s n.toNat { c with count := v }) := by
  simp only [exec, execWrDmaChSrc, execWrDmaChDst, execWrDmaChCount, hc, and_self]

/-- A `CTRL` write without `START` makes no request (R451). -/
theorem exec_wrDmaChCtrl_noStart {v : Word} (hc : chanAt s n.toNat = some c) (hstart : v.getLsbD 1 = false) :
    exec (.wrDmaChCtrl n v) s = hook .dma (setChan s n.toNat (setChanCtrl v c)) := by
  simp only [exec, execWrDmaChCtrl, hc, hstart, Bool.false_eq_true, if_false, andThen_next]

theorem exec_opDch_store (src dst count : Word) (b : Bool) (hc : chanAt s m.toNat = some c) :
    exec (.opDchConfigure m src dst count) s =
        done (setChan s m.toNat { c with src := src, dst := dst, count := count }) ∧
      exec (.opDchSetEnabled m b) s = done (setChan s m.toNat { c with enabled := b }) := by
  simp only [exec, execOpDchConfigure, execOpDchSetEnabled, hc, and_self]

end

/-- Settles O54: every write ends in the hook on the stored field, every operation without it. -/
theorem dmaRegistersStoreAndRead : Obligations.DmaRegistersStoreAndRead := by
  intro n m v a b e c s put
  refine ⟨?readControl, exec_framed_of_hook_dma rfl, fun hc => ?channel, exec_opDch_store v a b e⟩
  case readControl => exact congrArg (doneWord · s) (BitVec.shiftLeft_zero (boolWord s.dma.en))
  case channel =>
    obtain ⟨hrdSrc, hrdDst, hrdCount, hrdCtrl⟩ := readsAs_dmaCh hc
    obtain ⟨hwrSrc, hwrDst, hwrCount⟩ := exec_wrDmaCh_address v hc
    obtain ⟨hen, hstart, hie, hif⟩ := chanCtrlWord_fields c
    exact ⟨hrdSrc, hrdDst, hrdCount, ⟨_, hrdCtrl, hen, hstart, hie, hif, chanCtrlWord_reserved c⟩,
      exec_framed_of_hook_dma hwrSrc, exec_framed_of_hook_dma hwrDst, exec_framed_of_hook_dma hwrCount,
      fun hno => exec_framed_of_hook_dma (exec_wrDmaChCtrl_noStart hc hno)⟩

/-! ## The copy, byte by destination byte (R96) -/

theorem addrPlus_toNat_sub (base a dst : Word) : addrPlus base (a - dst).toNat = (base + (a - dst)).toNat := by
  rw [addrPlus, BitVec.ofNat_toNat, BitVec.setWidth_eq]

/-- An address that the copy reaches lies less than `n` above the destination. -/
theorem toNat_sub_le_of_eq_addrPlus {a dst : Word} {i : Nat} (h : a.toNat = addrPlus dst i) : (a - dst).toNat ≤ i := by
  have ha : a - dst = BitVec.ofNat 32 i := by
    rw [BitVec.eq_of_toNat_eq h, BitVec.add_comm, BitVec.add_sub_cancel]
  rw [ha, BitVec.toNat_ofNat]
  exact Nat.mod_le i _

theorem copied_of_mem_eq {src dst count : Word} {s t : State} (hwf : Memory.wf s.mem = true)
    (h : t.mem = memCopy s.mem src dst count) : Copied src dst count s t := by
  rw [Copied, h]
  refine ⟨fun a => ?_, fun a ha => memRead_copyBytes_outside fun i _ => ?above⟩
  case above =>
    have hlt := addrPlus_lt dst i
    omega
  by_cases hin : (a - dst).toNat < count.toNat
  · have hread := memRead_copyBytes_inside (old := s.mem) (src := src) (dst := dst) hwf count.isLt.le hin
    rw [addrPlus_toNat_sub, addrPlus_toNat_sub, BitVec.add_comm dst, BitVec.sub_add_cancel] at hread
    rw [if_pos hin]
    exact hread
  · rw [if_neg hin]
    refine memRead_copyBytes_outside fun i hi ha => hin ?_
    exact (toNat_sub_le_of_eq_addrPlus ha).trans_lt hi

/-! ## The transfer (R262, R266) -/

theorem setChan_of_chanAt {s : State} {n : Nat} {c : DmaChannel} (hc : chanAt s n = some c) : setChan s n c = s := by
  obtain ⟨hn, hget⟩ := List.getElem?_eq_some_iff.mp (chanAt_eq_some.mp hc).2
  rw [setChan, ← hget, List.set_getElem_self]

/-- `UpdateInterrupts(w)` settles the line, whatever the state before it did apart from the line. -/
theorem settled_updateInterrupts {w : Window} {outs : List Output} {s s1 : State} (r : Result)
    (hl : lineOf w s1 = lineOf w s) (ht : s1.trace = s.trace ++ outs) :
    Settled w outs s (ret r (updateInterrupts w s1)) := by
  obtain ⟨_, _, ⟨hline, htrace⟩, _⟩ :=
    framed_updateInterrupts r (OnlyWindow.refl w s1) (fun _ => rfl) rfl (List.append_nil _).symm
  refine ⟨hline, ?_⟩
  rw [htrace, ht, List.append_nil, lineNotice, lineNotice, hl]

/-- A transfer by a channel stored as `c`: the flag is kept, or set when `ie` is. -/
theorem dmaTransfer_setChan_dma (n : Nat) (c : DmaChannel) (s : State) :
    (dmaTransfer n c (setChan s n c)).dma =
      { s.dma with ch := s.dma.ch.set n { c with pending := c.pending || c.ie } } := by
  obtain ⟨src, dst, count, enabled, ie, pending⟩ := c
  cases ie <;> simp [dmaTransfer_dma]

theorem lineOf_dmaTransfer (w : Window) (n : Nat) (c : DmaChannel) (s : State) : lineOf w (dmaTransfer n c s) = lineOf w s := by
  unfold dmaTransfer
  split <;> cases w <;> rfl

section
variable {n : Nat} {c : DmaChannel} {s : State}

/-- The channel stored as `c`, the transfer and the line: the frame and the effect of a transfer. -/
theorem transferred_dmaTransfer (hwf : Memory.wf s.mem = true) (n : Nat) (c : DmaChannel) :
    Transferred n c s (ret .nothing (updateInterrupts .dma (dmaTransfer n c (setChan s n c)))) := by
  have hstored : Confined .dma true s (setChan s n c) := confined_dma _
  have hmoved := hstored.trans (confined_dmaTransfer n c _)
  obtain ⟨honly, _⟩ := (hmoved.trans confined_updateInterrupts).trans (confined_ret .nothing)
  have hdma : windowSame .dma (dmaTransfer n c (setChan s n c)) _ := windowSame_updateInterrupts .dma .dma _
  refine ⟨honly, copied_of_mem_eq hwf (by simp), hdma.trans (dmaTransfer_setChan_dma n c s),
    settled_updateInterrupts .nothing (lineOf_dmaTransfer ..) (dmaTransfer_trace ..), rfl⟩

/-- A request whose answer is the settled transfer completes as one, with a further hook or without. -/
theorem andThen_transferred {o : Host.Outcome State Fault Refusal} (hwf : Memory.wf s.mem = true)
    (h : o = .next (updateInterrupts .dma (dmaTransfer n c (setChan s n c)))) :
    (∃ t, andThen o done = .next t ∧ Transferred n c s t) ∧
      ∃ t, andThen o (hook .dma) = .next t ∧ Transferred n c s t := by
  have htransferred := transferred_dmaTransfer hwf n c
  rw [h, andThen_next, andThen_next, hook, updateInterrupts_idem]
  exact ⟨⟨_, rfl, htransferred⟩, ⟨_, rfl, htransferred⟩⟩

theorem dchTrigger_ready (hen : c.enabled = true) (hcount : c.count ≠ 0)
    (htouch : touchesWindow s.cfg c.src c.dst c.count = false) :
    dchTrigger n c s = .next (updateInterrupts .dma (dmaTransfer n c s)) := by
  have hready : ¬(!c.enabled || c.count == 0) = true := by simpa [hen] using hcount
  exact (if_neg hready).trans (if_neg (by simp [htouch]))

end

/-- Settles O56: each request finds the channel stored and is answered by the settled transfer (`dchTrigger_ready`), which
`andThen_transferred` completes; a `CTRL` write has stored its fields first. -/
theorem transferCopiesAndFlags : Obligations.TransferCopiesAndFlags := by
  intro n m v q c s hwf
  have trigger {k : Nat} (hc : chanAt s k = some c) (hen : c.enabled = true) (hcount : c.count ≠ 0)
      (htouch : touchesWindow s.cfg c.src c.dst c.count = false) :
      dchTrigger k c s = .next (updateInterrupts .dma (dmaTransfer k c (setChan s k c))) :=
    (setChan_of_chanAt hc).symm ▸ dchTrigger_ready hen hcount htouch
  refine ⟨fun hc hen hcount htouch => ⟨?trigger, fun hctl => ?event⟩, fun hc hen hcount htouch hctl => ?request,
    fun hc hen hstart hcount hctl htouch => ?start⟩
  case trigger =>
    rw [exec_opDchTrigger_of_some hc]
    exact (andThen_transferred hwf (trigger hc hen hcount htouch)).1
  case event =>
    exact (andThen_transferred hwf ((dmaRequest_of_enabled hc hctl).trans (trigger hc hen hcount htouch))).2
  case request =>
    exact (andThen_transferred hwf ((dmaRequest_of_enabled hc hctl).trans (trigger hc hen hcount htouch))).1
  case start =>
    have hstored := chanAt_setChan_same (setChanCtrl v c) hc
    rw [exec_wrDmaChCtrl_start hc hstart, ← hen]
    exact (andThen_transferred hwf ((dmaRequest_of_enabled hstored hctl).trans (dchTrigger_ready hen hcount htouch))).2

end Sys2Proof.Machine
end

section
/-! The serial core (R293 to R297): what each operation leaves in the port and in the trace, as one effect; the drain of a
transmitter that loops back, byte by byte. -/

namespace Sys2Proof.Machine

/-! ## The effect of an operation of the serial core -/

/-- `s` with the port `p` for `w` and `outs` emitted: all that an operation of the serial core does (`PortStep`). -/
def portEffect (w : Serial) (p : Port) (outs : List Output) (s : State) : State :=
  { setPort w p s with trace := s.trace ++ outs }

section
variable (w : Serial) (p : Port) (outs : List Output) (s : State)

theorem portStep_portEffect : PortStep w s (portEffect w p outs s) := ⟨p, outs, (setPort_withTrace w p _ s).symm⟩

theorem portEffect_nil : portEffect w p [] s = setPort w p s := by
  cases w <;> simp [portEffect, setPort]

theorem emit_eq_portEffect (o : Output) : emit o s = portEffect w (portOf w s) [o] s := by
  rw [portEffect, setPort_portOf, emit]

theorem portEffect_portEffect (p' : Port) (outs' : List Output) :
    portEffect w p' outs' (portEffect w p outs s) = portEffect w p' (outs ++ outs') s := by
  simp only [portEffect, setPort_withTrace, setPort_setPort, List.append_assoc]

@[simp] theorem portOf_portEffect : portOf w (portEffect w p outs s) = p := by cases w <;> rfl

@[simp] theorem portEffect_cfg : (portEffect w p outs s).cfg = s.cfg := setPort_cfg w p s

@[simp] theorem txOn_portEffect : txOn w (portEffect w p outs s) = txOn w s := by cases w <;> rfl

@[simp] theorem loopbackOn_portEffect : loopbackOn w (portEffect w p outs s) = loopbackOn w s := by cases w <;> rfl

theorem windowSame_withTrace (x : Window) (tr : List Output) : windowSame x s { s with trace := tr } := by cases x <;> rfl

end

/-! ## Receiving (R297) -/

/-- A byte that finds the RX queue full: the flag of the port under the overrun policy. -/
def overrunPort (policy : OvrPolicy) (p : Port) : Port :=
  { p with overrun := p.overrun || decide (policy = .rejectAndFlag) }

@[simp] theorem overrunPort_rx (policy : OvrPolicy) (p : Port) : (overrunPort policy p).rx = p.rx := rfl

theorem rxPush_overrun {w : Serial} {s : State} (b : Byte) (h : (portOf w s).rx.length = s.cfg.fifoCap) :
    rxPush w b s = portEffect w (overrunPort (policyOf w s.cfg) (portOf w s)) [.warn .overrun] s := by
  rw [rxPush_full b h]
  cases policyOf w s.cfg with
  | rejectAndFlag =>
    simp only [overrunPort, decide_true, Bool.or_true]
    exact setPort_withTrace ..
  | dropSilent =>
    simp only [overrunPort, reduceCtorEq, decide_false, Bool.or_false]
    exact emit_eq_portEffect w s (.warn .overrun)

theorem serRxChar_off {w : Serial} {s : State} (b : Byte) (h : rxOn w s = false) : serRxChar w b s = s := by
  simp [serRxChar, h]

theorem serRxChar_on {w : Serial} {s : State} (b : Byte) (h : rxOn w s = true) : serRxChar w b s = rxPush w b s := if_pos h

/-! ## The drain of a transmitter that loops back (R294, R297, R487 (2)) -/

/-- The port that has received the bytes `q`: those that find room are queued, the surplus is lost and flagged by the policy. -/
def received (cap : Nat) (policy : OvrPolicy) (p : Port) (q : List Byte) : Port :=
  { p with
    rx := p.rx ++ q.take (cap - p.rx.length)
    overrun := p.overrun || (decide (cap - p.rx.length < q.length) && decide (policy = .rejectAndFlag)) }

/-- What a looping drain of `q` emits where the RX queue has room for `room` bytes: each surplus byte is warned of. -/
def loopOuts (w : Serial) (room : Nat) (q : List Byte) : List Output :=
  (q.take room).map (Output.tx w) ++ (q.drop room).flatMap fun b => [.tx w b, .warn .overrun]

theorem received_nil (cap : Nat) (policy : OvrPolicy) (p : Port) : received cap policy p [] = p := by simp [received]

theorem received_cons_full {cap : Nat} {p : Port} (h : p.rx.length = cap) (policy : OvrPolicy) (b : Byte) (q : List Byte) :
    received cap policy p (b :: q) = received cap policy (overrunPort policy p) q := by
  cases policy <;> simp [received, overrunPort, h]

theorem received_cons_room {cap : Nat} {p : Port} (h : p.rx.length < cap) (policy : OvrPolicy) (b : Byte) (q : List Byte) :
    received cap policy p (b :: q) = received cap policy { p with rx := p.rx ++ [b] } q := by
  obtain ⟨n, hn⟩ := Nat.exists_eq_add_of_lt h
  have hroom : cap - p.rx.length = n + 1 := by omega
  have hroom' : cap - (p.rx ++ [b]).length = n := by rw [List.length_append, List.length_singleton]; omega
  simp [received, hroom, hroom', -List.length_append]

theorem loopOuts_nil (w : Serial) (room : Nat) : loopOuts w room [] = [] := by simp [loopOuts]

theorem loopOuts_zero_cons (w : Serial) (b : Byte) (q : List Byte) :
    loopOuts w 0 (b :: q) = [.tx w b, .warn .overrun] ++ loopOuts w 0 q := rfl

theorem loopOuts_succ_cons (w : Serial) (n : Nat) (b : Byte) (q : List Byte) :
    loopOuts w (n + 1) (b :: q) = [.tx w b] ++ loopOuts w n q := rfl

section
variable {w : Serial} {s : State}

theorem drainByte_loop (hloop : loopbackOn w s = true) (b : Byte) :
    drainByte w b s = rxPush w b (portEffect w (portOf w s) [.tx w b] s) := by
  rw [drainByte, emit_eq_portEffect w, loopbackOn_portEffect, if_pos hloop]

theorem drainByte_loop_full (hloop : loopbackOn w s = true) (hfull : (portOf w s).rx.length = s.cfg.fifoCap) (b : Byte) :
    drainByte w b s = portEffect w (overrunPort (policyOf w s.cfg) (portOf w s)) [.tx w b, .warn .overrun] s := by
  rw [drainByte_loop hloop, rxPush_overrun b (by simpa using hfull), portEffect_portEffect, portOf_portEffect, portEffect_cfg]
  rfl

theorem drainByte_loop_room (hloop : loopbackOn w s = true) (hroom : (portOf w s).rx.length ≠ s.cfg.fifoCap) (b : Byte) :
    drainByte w b s = portEffect w { portOf w s with rx := (portOf w s).rx ++ [b] } [.tx w b] s := by
  rw [drainByte_loop hloop, rxPush_room b (by simpa using hroom), ← portEffect_nil, portEffect_portEffect, portOf_portEffect,
    List.append_nil]

/-- Each byte of the drain finds the RX queue as the bytes before it left it. -/
theorem drainBytes_loop (q : List Byte) (hloop : loopbackOn w s = true) (hcap : (portOf w s).rx.length ≤ s.cfg.fifoCap) :
    drainBytes w q s = portEffect w (received s.cfg.fifoCap (policyOf w s.cfg) (portOf w s) q)
      (loopOuts w (s.cfg.fifoCap - (portOf w s).rx.length) q) s := by
  induction q generalizing s with
  | nil => rw [received_nil, loopOuts_nil, portEffect_nil, setPort_portOf, drainBytes]
  | cons b q ih =>
    rw [drainBytes]
    by_cases hfull : (portOf w s).rx.length = s.cfg.fifoCap
    · rw [drainByte_loop_full hloop hfull, ih (by simpa using hloop) (by simpa using hcap), portEffect_portEffect,
        portOf_portEffect, portEffect_cfg, received_cons_full hfull, overrunPort_rx, hfull, Nat.sub_self, loopOuts_zero_cons]
    · have hlt := Nat.lt_of_le_of_ne hcap hfull
      have hsub : s.cfg.fifoCap - (portOf w s).rx.length = s.cfg.fifoCap - ((portOf w s).rx ++ [b]).length + 1 := by
        rw [List.length_append, List.length_singleton]; omega
      rw [drainByte_loop_room hloop hfull, ih (by simpa using hloop) (by simpa using hlt), portEffect_portEffect,
        portOf_portEffect, portEffect_cfg, received_cons_room hlt, hsub, loopOuts_succ_cons]

/-! ## The drain and the data write (R293, R294, R303) -/

/-- A drain that loops back nothing, for there is no loopback or no byte. -/
theorem serDrain_eq_portEffect (h : loopbackOn w s = false ∨ (portOf w s).tx = []) :
    serDrain w s = portEffect w { portOf w s with tx := [] } ((portOf w s).tx.map (Output.tx w)) s := by
  rcases h with hloop | hempty
  · exact serDrain_eq hloop
  · rw [serDrain, hempty, List.map_nil, portEffect_nil]
    rfl

theorem serDrain_loop (hloop : loopbackOn w s = true) (hcap : (portOf w s).rx.length ≤ s.cfg.fifoCap) :
    serDrain w s = portEffect w (received s.cfg.fifoCap (policyOf w s.cfg) { portOf w s with tx := [] } (portOf w s).tx)
      (loopOuts w (s.cfg.fifoCap - (portOf w s).rx.length) (portOf w s).tx) s := by
  rw [serDrain, setFifo_tx, ← portEffect_nil, drainBytes_loop _ (by simpa using hloop) (by simpa using hcap),
    portEffect_portEffect, portOf_portEffect, portEffect_cfg, List.nil_append]

theorem drainIfOn_off (h : txOn w s = false) : drainIfOn w s = s := by simp [drainIfOn, h]

theorem drainIfOn_on (h : txOn w s = true) : drainIfOn w s = serDrain w s := if_pos h

/-- A data write offers its byte to the TX queue, and a transmitter that is on drains it. -/
theorem serDataWrite_room (b : Byte) (h : (portOf w s).tx.length ≠ s.cfg.fifoCap) :
    serDataWrite w b s = drainIfOn w (setPort w { portOf w s with tx := (portOf w s).tx ++ [b] } s) := by
  rw [serDataWrite, pushFifo_room (q := ⟨w, .tx⟩) b h]
  rfl

theorem serDataWrite_full (b : Byte) (h : (portOf w s).tx.length = s.cfg.fifoCap) :
    serDataWrite w b s = drainIfOn w (warn .txDrop s) := by
  rw [serDataWrite, pushFifo_full (q := ⟨w, .tx⟩) b h]
  rfl

/-- A data write of a looping transmitter that is on: the queue as the byte has left it, full or not, is drained. -/
theorem serDataWrite_loop (b : Byte) (hloop : loopbackOn w s = true) (hon : txOn w s = true)
    (hcap : (portOf w s).rx.length ≤ s.cfg.fifoCap) :
    let full := (portOf w s).tx.length = s.cfg.fifoCap
    let queue := if full then (portOf w s).tx else (portOf w s).tx ++ [b]
    serDataWrite w b s =
      portEffect w (received s.cfg.fifoCap (policyOf w s.cfg) { portOf w s with tx := [] } queue)
        ((if full then [.warn .txDrop] else []) ++ loopOuts w (s.cfg.fifoCap - (portOf w s).rx.length) queue) s := by
  intro full queue
  have hoffer : serDataWrite w b s =
      drainIfOn w (portEffect w { portOf w s with tx := queue } (if full then [.warn .txDrop] else []) s) := by
    by_cases hfull : full
    · simp only [queue, if_pos hfull]
      rw [serDataWrite_full b hfull, warn, emit_eq_portEffect w]
    · simp only [queue, if_neg hfull]
      rw [serDataWrite_room b hfull, portEffect_nil]
  rw [hoffer, drainIfOn_on (by simpa using hon), serDrain_loop (by simpa using hloop) (by simpa using hcap),
    portEffect_portEffect, portOf_portEffect, portEffect_cfg]

end

end Sys2Proof.Machine
end

section
/-! The data registers and the receiver (R293 to R297): a stimulus of a serial window and the component operation of the same
meaning, the one with the line settled and the other without. -/

namespace Sys2Proof.Machine

/-! ## A stimulus and its component operation -/

/-- In `s` the component operation `op` leaves `s1` and returns `r`; the stimulus `ev` does the same and recomputes the line. -/
structure Serves (w : Serial) (ev op : Instr) (s : State) (r : Result) (s1 : State) : Prop where
  step      : PortStep w s s1
  stimulus  : exec ev s = .next (ret r (updateInterrupts (serialWindow w) s1))
  operation : exec op s = .next (ret r s1)

theorem serves_dataRead (w : Serial) (s : State) :
    Serves w (dataRead w) (.opSerDataRead w) s (.word (serDataRead w s).1) (serDataRead w s).2 :=
  ⟨serDataRead_portStep w s, by cases w <;> rfl, rfl⟩

theorem serves_dataWrite (w : Serial) (v : Word) (s : State) :
    Serves w (dataWrite w v) (.opSerDataWrite w (v.extractLsb' 0 8)) s .nothing (serDataWrite w (v.extractLsb' 0 8) s) :=
  ⟨serDataWrite_portStep w _ s, by cases w <;> rfl, rfl⟩

theorem serves_rxChar (w : Serial) (b : Byte) (s : State) :
    Serves w (rxChar w b) (.opSerRxChar w b) s .nothing (serRxChar w b s) :=
  ⟨serRxChar_portStep w b s, by cases w <;> rfl, rfl⟩

/-- What the two do, once the state left is known: `s2` names the window's part of it. -/
theorem Serves.effect {w : Serial} {ev op : Instr} {s s1 s2 : State} {r : Result} {outs : List Output}
    (h : Serves w ev op s r s1) (hsame : windowSame (serialWindow w) s2 s1) (htrace : s1.trace = s.trace ++ outs) :
    (∃ t, exec ev s = .next t ∧ windowSame (serialWindow w) s2 t ∧ Framed (serialWindow w) outs r s t) ∧
      exec op s = .next { s1 with result := r } := by
  obtain ⟨honly, hmem, hline, _⟩ := h.step.frame
  have hkept : windowSame (serialWindow w) s1 (ret r (updateInterrupts (serialWindow w) s1)) :=
    windowSame_trans (windowSame_updateInterrupts ..) (windowSame_ret ..)
  exact ⟨⟨_, h.stimulus, windowSame_trans hsame hkept, framed_updateInterrupts r honly hmem hline htrace⟩, h.operation⟩

section
variable {w : Serial} {ev op : Instr} {s : State} {r : Result} {p : Port} {outs : List Output}

/-- Nothing is emitted. -/
theorem Serves.effect_port (h : Serves w ev op s r (setPort w p s)) :
    (∃ t, exec ev s = .next t ∧ windowSame (serialWindow w) (setPort w p s) t ∧ Framed (serialWindow w) [] r s t) ∧
      exec op s = .next { setPort w p s with result := r } :=
  h.effect (windowSame_refl ..) (by rw [setPort_trace, List.append_nil])

/-- The port stays. -/
theorem Serves.effect_outs (h : Serves w ev op s r { s with trace := s.trace ++ outs }) :
    (∃ t, exec ev s = .next t ∧ windowSame (serialWindow w) s t ∧ Framed (serialWindow w) outs r s t) ∧
      exec op s = .next { s with trace := s.trace ++ outs, result := r } :=
  h.effect (windowSame_withTrace ..) rfl

theorem Serves.effect_portEffect (h : Serves w ev op s r (portEffect w p outs s)) :
    (∃ t, exec ev s = .next t ∧ windowSame (serialWindow w) (setPort w p s) t ∧ Framed (serialWindow w) outs r s t) ∧
      exec op s = .next { setPort w p s with trace := s.trace ++ outs, result := r } :=
  h.effect (windowSame_withTrace ..) rfl

end

/-! ## The settled statements -/

/-- Settles O39: the two cases of the pop. -/
theorem dataReadPopsOldestByte : Obligations.DataReadPopsOldestByte := by
  intro w s
  have hread := serves_dataRead w s
  refine ⟨fun hempty => ?empty, fun b bs hrx => ?oldest⟩
  case empty =>
    rw [serDataRead_nil hempty] at hread
    exact hread.effect_outs
  case oldest =>
    rw [serDataRead_cons hrx] at hread
    exact hread.effect_port

/-- Settles O42: the receiver is off, finds room, or finds the queue full. -/
theorem receivedByteIsQueuedOrLost : Obligations.ReceivedByteIsQueuedOrLost := by
  intro w b s p flagged
  have hchar := serves_rxChar w b s
  refine ⟨fun hoff => ?off, fun hon hroom => ?room, fun hon hfull => ?full⟩
  case off =>
    rw [serRxChar_off b hoff] at hchar
    exact hchar.effect (windowSame_refl ..) (List.append_nil _).symm
  case room =>
    rw [serRxChar_on b hon, rxPush_room b hroom.ne] at hchar
    exact hchar.effect_port
  case full =>
    rw [serRxChar_on b hon, rxPush_overrun b hfull] at hchar
    exact hchar.effect_portEffect

/-- Settles O40: the queue takes the byte or not, and the transmitter drains it or not. -/
theorem dataWriteTransmitsOrQueues : Obligations.DataWriteTransmitsOrQueues := by
  intro w v s p b
  have hwrite := serves_dataWrite w v s
  refine ⟨fun hoff hroom => ?offRoom, fun hoff hfull => ?offFull, fun hloop hon hroom => ?onRoom,
    fun hloop hon hfull => ?onFull, fun hloop => ?drain⟩
  case offRoom =>
    rw [serDataWrite_room _ hroom, drainIfOn_off (by simpa using hoff)] at hwrite
    exact hwrite.effect_port
  case offFull =>
    rw [serDataWrite_full _ hfull, drainIfOn_off (by simpa using hoff)] at hwrite
    exact hwrite.effect_outs
  case onRoom =>
    rw [serDataWrite_room _ hroom, ← portEffect_nil, drainIfOn_on (by simpa using hon),
      serDrain_eq_portEffect (.inl (by simpa using hloop)), portEffect_portEffect, portOf_portEffect] at hwrite
    exact hwrite.effect_portEffect
  case onFull =>
    rw [serDataWrite_full _ hfull, warn, emit_eq_portEffect w, drainIfOn_on (by simpa using hon),
      serDrain_eq_portEffect (.inl (by simpa using hloop)), portEffect_portEffect, portOf_portEffect] at hwrite
    exact hwrite.effect_portEffect
  case drain =>
    exact congrArg done (serDrain_eq hloop)

end Sys2Proof.Machine
end

section
/-! The control registers of UART, SPI and I2C (R303, R354, R355, R388, R389, R398, R399) and the loopback of the SPI (R390). -/

namespace Sys2Proof.Machine

/-! ## Control words read back -/

theorem flagAt_getLsbD (v : Word) (i : Nat) : flagAt (v.getLsbD i) i = v &&& (maskWord 1 <<< i) := by
  rw [← packField_boolWord, boolWord_getLsbD, packField_extractField]

theorem fieldAt_extractLsb' (v : Word) (lo n : Nat) : fieldAt (v.extractLsb' lo n) lo = v &&& (maskWord n <<< lo) := by
  rw [← packField_setWidth, setWidth_extractLsb', packField_extractField]

theorem uartControlWord_setUartControl (v : Word) (u : Uart) : uartControlWord (setUartControl v u) = v &&& 0x001F1F1F#32 := by
  simp only [uartControlWord, setUartControl, flagAt_getLsbD, fieldAt_extractLsb', ← BitVec.and_or_distrib_left]
  rfl

theorem spiControlWord_setSpiControl (v : Word) (u : Spi) : spiControlWord (setSpiControl v u) = v &&& 0x001F1F7F#32 := by
  simp only [spiControlWord, setSpiControl, flagAt_getLsbD, fieldAt_extractLsb', ← BitVec.and_or_distrib_left]
  rfl

theorem i2cControlWord_setI2cControl (v : Word) (u : I2c) : i2cControlWord (setI2cControl v u) = v &&& 0x1F1F7F7F#32 := by
  simp only [i2cControlWord, setI2cControl, flagAt_getLsbD, fieldAt_extractLsb', ← BitVec.and_or_distrib_left]
  rfl

/-! ## The hook of a control register (R303) -/

/-- A transmitter left on sends its queue; one left off keeps it and sends nothing. -/
theorem drainIfOn_eq_portEffect {w : Serial} {s : State}
    (h : txOn w s = false ∨ loopbackOn w s = false ∨ (portOf w s).tx = []) :
    drainIfOn w s = portEffect w (if txOn w s then { portOf w s with tx := [] } else portOf w s)
      (if txOn w s then (portOf w s).tx.map (Output.tx w) else []) s := by
  cases hon : txOn w s with
  | false => simp [drainIfOn_off hon, portEffect_nil]
  | true =>
    rw [drainIfOn_on hon, serDrain_eq_portEffect (h.resolve_left (by simp [hon]))]
    rfl

/-- A control write has stored its cells, which gives `s0`; its hook drains and settles the line. -/
theorem hook_drainIfOn_framed {w : Serial} {s s0 : State} {p : Port} {outs : List Output}
    (hcells : Confined (serialWindow w) false s s0) (hline : lineOf (serialWindow w) s0 = lineOf (serialWindow w) s)
    (htrace : s0.trace = s.trace) (hdrain : drainIfOn w s0 = portEffect w p outs s0) :
    ∃ t, hook (serialWindow w) (drainIfOn w s0) = .next t ∧ windowSame (serialWindow w) (setPort w p s0) t ∧
      Framed (serialWindow w) outs .nothing s t := by
  obtain ⟨honly, hmem⟩ := hcells.trans (portStep_portEffect w p outs s0).confined
  obtain ⟨_, _, hkept, _⟩ := (portStep_portEffect w p outs s0).frame
  obtain ⟨t, hnext, hsame, hframed⟩ := hook_framed (outs := outs) honly (fun a => by rw [hmem rfl]) (hkept.trans hline)
    (congrArg (· ++ outs) htrace)
  exact ⟨t, hdrain ▸ hnext, windowSame_trans (windowSame_withTrace ..) hsame, hframed⟩

/-- A write of `SPI.CONTROL`, once it is known what its drain leaves. -/
theorem exec_wrSpiControl_effect {v : Word} {s : State} {p : Port} {outs : List Output}
    (hdrain : drainIfOn .spi { s with spi := setSpiControl v s.spi } =
      portEffect .spi p outs { s with spi := setSpiControl v s.spi }) :
    ∃ t, exec (.wrSpiControl v) s = .next t ∧ ReadsAs .rdSpiControl t (v &&& 0x001F1F7F#32) ∧ t.spi.port = p ∧
      Framed .spi outs .nothing s t := by
  obtain ⟨t, hnext, hspi, hframed⟩ := hook_drainIfOn_framed (w := .spi) (confined_spi _) rfl rfl hdrain
  have hspi : t.spi = { setSpiControl v s.spi with port := p } := hspi
  have hword : spiControlWord t.spi = v &&& 0x001F1F7F#32 := by
    rw [hspi]
    exact spiControlWord_setSpiControl v s.spi
  exact ⟨t, hnext, congrArg (doneWord · t) hword, by rw [hspi], hframed⟩

/-! ## The settled statements -/

/-- Settles O44: the cells are stored, the hook drains what `drainIfOn_eq_portEffect` says, and the control word forgets all
but its implemented bits. -/
theorem controlRegistersStoreAndDrain : Obligations.ControlRegistersStoreAndDrain := by
  intro v s
  refine ⟨?uart, fun hspi => exec_wrSpiControl_effect (drainIfOn_eq_portEffect hspi), ?i2c⟩
  case uart =>
    obtain ⟨t, hnext, huart, hframed⟩ := hook_drainIfOn_framed (w := .uart) (s := s)
      (s0 := { s with uart := setUartControl v s.uart }) (confined_uart _) rfl rfl (drainIfOn_eq_portEffect (.inr (.inl rfl)))
    have huart : t.uart = { setUartControl v s.uart with
      port := if v.getLsbD 0 then { s.uart.port with tx := [] } else s.uart.port } := huart
    refine ⟨t, hnext, congrArg (doneWord · t) ?_, by rw [huart]; rfl, by rw [huart], hframed⟩
    rw [huart]
    exact uartControlWord_setUartControl v s.uart
  case i2c =>
    obtain ⟨t, hnext, hi2c, hframed⟩ := hook_drainIfOn_framed (w := .i2c) (s := s)
      (s0 := { s with i2c := setI2cControl v s.i2c }) (confined_i2c _) rfl rfl (drainIfOn_eq_portEffect (.inr (.inl rfl)))
    have hi2c : t.i2c = { setI2cControl v s.i2c with
      port := if v.getLsbD 0 then { s.i2c.port with tx := [] } else s.i2c.port } := hi2c
    refine ⟨t, hnext, congrArg (doneWord · t) ?_, by rw [hi2c]; rfl, by rw [hi2c], hframed⟩
    rw [hi2c]
    exact i2cControlWord_setI2cControl v s.i2c

/-- Settles O41: each of the four stimuli ends in the looping drain of `serDrain_loop`, of the queue as it stands or as the
data write has left it. -/
theorem spiLoopbackReceivesWhatItSends : Obligations.SpiLoopbackReceivesWhatItSends := by
  intro v s hcap p b room after outs full queue drop
  refine ⟨fun hloop => ?drain, fun hon hloop => ?control, fun hloop hon => ?data⟩
  case drain => exact congrArg done (serDrain_loop (w := .spi) hloop hcap)
  case control =>
    refine exec_wrSpiControl_effect ((drainIfOn_on ?enabled).trans (serDrain_loop ?looping hcap))
    case enabled => exact hon
    case looping => exact hloop
  case data =>
    have hwrite := serves_dataWrite .spi v s
    rw [serDataWrite_loop (w := .spi) _ hloop hon hcap] at hwrite
    obtain ⟨⟨t, hnext, hspi, hframed⟩, hop⟩ := hwrite.effect_portEffect
    exact ⟨⟨t, hnext, hframed, hspi⟩, by rw [List.append_assoc]; exact hop⟩

end Sys2Proof.Machine
end
section
/-! The GPIO window (R320 to R342): what its registers show pin by pin, the one vector each write stores, and the detection of a
pin event. -/

namespace Sys2Proof.Machine

/-! ## The implemented pins (R36, R320) -/

theorem getLsbD_and_gpioMask (c : Config) (x : Word) (k : Nat) :
    (x &&& gpioMask c).getLsbD k = (decide (k < c.nGpio) && x.getLsbD k) := by
  rw [BitVec.getLsbD_and, gpioMask, getLsbD_maskWord]
  by_cases hk : k < 32
  · rw [decide_eq_true hk, Bool.true_and, Bool.and_comm]
  · simp [BitVec.getLsbD_of_ge x k (Nat.not_lt.mp hk)]

/-- An output pin shows its latch, an input pin its level (R37, R321). -/
theorem getLsbD_gpioDataWord (c : Config) (g : Gpio) (k : Nat) : (gpioDataWord c g).getLsbD k =
    (decide (k < c.nGpio) && if g.dir.getLsbD k then g.out.getLsbD k else g.inp.getLsbD k) := by
  have hpin : ((g.out &&& g.dir) ||| (g.inp &&& ~~~g.dir)).getLsbD k =
      if g.dir.getLsbD k then g.out.getLsbD k else g.inp.getLsbD k := by
    rw [BitVec.getLsbD_or, BitVec.getLsbD_and, BitVec.getLsbD_and, BitVec.getLsbD_not]
    cases hdir : g.dir.getLsbD k with
    | true => simp
    | false =>
      have hlt : g.inp.getLsbD k = true → k < 32 := BitVec.lt_of_getLsbD
      simpa using hlt
  rw [gpioDataWord, getLsbD_and_gpioMask, hpin]

/-! ## The registers (R321 to R334) -/

section
variable {i : Instr} {s : State}

theorem readsAs_of_gpioMask {x : Word} (h : exec i s = doneWord (x &&& gpioMask s.cfg) s) :
    ∃ y : Word, ReadsAs i s y ∧ ∀ k, y.getLsbD k = (decide (k < s.cfg.nGpio) && x.getLsbD k) :=
  ⟨_, h, getLsbD_and_gpioMask s.cfg x⟩

theorem readsAs_of_gpioExtRead {off : Nat} {x : Word} (hext : s.cfg.gpioExt = true) (h : exec i s = gpioExtRead off x s) :
    ∃ y : Word, ReadsAs i s y ∧ ∀ k, y.getLsbD k = (decide (k < s.cfg.nGpio) && x.getLsbD k) :=
  readsAs_of_gpioMask (h.trans (if_pos hext))

/-- A stimulus that stores a component state of the GPIO and ends in the hook does that and no more. -/
theorem exec_framed_of_hook_gpio {x : Gpio} (h : exec i s = hook .gpio { s with gpio := x }) :
    ∃ t, exec i s = .next t ∧ t.gpio = x ∧ Framed .gpio [] .nothing s t := by
  rw [h]
  exact hook_gpio s x

theorem exec_framed_of_gpioExtWrite {off : Nat} {x : Gpio} (hext : s.cfg.gpioExt = true) (h : exec i s = gpioExtWrite off x s) :
    ∃ t, exec i s = .next t ∧ t.gpio = x ∧ Framed .gpio [] .nothing s t :=
  exec_framed_of_hook_gpio (h.trans (if_pos hext))

end

/-! ## Detection (R341, R342) -/

/-- The detection table: level-sensitive on the active level, edge-sensitive on both edges or on the edge to the active level. -/
theorem detect_iff (g : Gpio) (pin : Nat) (old new : Bool) : detect g pin old new = true ↔
    if g.it.getLsbD pin = false then new = g.ip.getLsbD pin
      else if g.edge.getLsbD pin = true then old ≠ new
      else old ≠ new ∧ new = g.ip.getLsbD pin := by
  unfold detect
  cases g.it.getLsbD pin with
  | false => cases g.ip.getLsbD pin <;> simp
  | true =>
    cases g.edge.getLsbD pin with
    | true => simp
    | false => cases g.ip.getLsbD pin <;> cases old <;> simp

section
variable {c : Config} {g : Gpio} {pin : Nat} {level : Bool}

theorem getLsbD_pinLatches_same (hpin : pin < 32) : (pinLatches c g pin level).getLsbD pin = true ↔
    g.is.getLsbD pin = true ∨ (c.gpioExt = true ∧ detect g pin (g.inp.getLsbD pin) level = true) := by
  unfold pinLatches
  split
  next hset => simp [getLsbD_setBit hpin, Bool.and_eq_true_iff.mp hset]
  next hset => rw [← Bool.and_eq_true_iff, or_iff_left hset]

theorem getLsbD_pinLatches_ne {k : Nat} (hpin : pin < 32) (hk : k ≠ pin) :
    (pinLatches c g pin level).getLsbD k = g.is.getLsbD k := by
  unfold pinLatches
  split
  · rw [getLsbD_setBit hpin, if_neg hk]
  · rfl

end

section
variable {pin : BitVec 16} {s : State} (level : Bool)

theorem exec_evGpioPin_bad (hbad : s.cfg.nGpio ≤ pin.toNat) :
    exec (.evGpioPin pin level) s = done (warn (.badPin pin.toNat) s) := if_pos hbad

theorem exec_evGpioPin_implemented (hpin : pin.toNat < s.cfg.nGpio) : exec (.evGpioPin pin level) s =
    hook .gpio { s with
      gpio := { s.gpio with
        inp := setBit s.gpio.inp pin.toNat level, is := pinLatches s.cfg s.gpio pin.toNat level } } :=
  if_neg (Nat.not_le.mpr hpin)

end

/-! ## The settled statements -/

/-- Settles O36: every read masks a vector, and `DATA` a vector composed pin by pin. -/
theorem gpioReadsAreBitwise : Obligations.GpioReadsAreBitwise := by
  intro s
  refine ⟨⟨_, rfl, getLsbD_gpioDataWord s.cfg s.gpio⟩, readsAs_of_gpioMask rfl, fun hext => ?extension⟩
  case extension =>
    exact ⟨readsAs_of_gpioExtRead hext rfl, readsAs_of_gpioExtRead hext rfl, readsAs_of_gpioExtRead hext rfl,
      readsAs_of_gpioExtRead hext rfl, readsAs_of_gpioExtRead hext rfl⟩

/-- Settles O37: every write ends in the hook on one changed vector. -/
theorem gpioWritesStoreOneVector : Obligations.GpioWritesStoreOneVector := by
  intro v s m
  refine ⟨exec_framed_of_hook_gpio rfl, exec_framed_of_hook_gpio rfl, fun hext => ?extension⟩
  case extension =>
    exact ⟨exec_framed_of_gpioExtWrite hext rfl, exec_framed_of_gpioExtWrite hext rfl, exec_framed_of_gpioExtWrite hext rfl,
      exec_framed_of_gpioExtWrite hext rfl, exec_framed_of_gpioExtWrite hext rfl⟩

/-- Settles O38: the event writes the pin's level and sets its latch when `detect` says so; `detect_iff` is the table. -/
theorem pinEventLatchesAsTheTableSays : Obligations.PinEventLatchesAsTheTableSays := by
  intro pin level s hpins
  refine ⟨exec_evGpioPin_bad level, fun hpin => ?implemented⟩
  case implemented =>
    have hlt : pin.toNat < 32 := by omega
    obtain ⟨t, hnext, hgpio, hframed⟩ := exec_framed_of_hook_gpio (exec_evGpioPin_implemented level hpin)
    have hinp (k : Nat) : t.gpio.inp.getLsbD k = if k = pin.toNat then level else s.gpio.inp.getLsbD k := by
      rw [hgpio]
      exact getLsbD_setBit hlt _ _ k
    have his : t.gpio.is = pinLatches s.cfg s.gpio pin.toNat level := by rw [hgpio]
    refine ⟨t, hnext, hframed, by rw [hgpio], (hinp _).trans (if_pos rfl), fun k hk => ⟨(hinp k).trans (if_neg hk), ?_⟩, ?_⟩
    · rw [his, getLsbD_pinLatches_ne hlt hk]
    · rw [his, getLsbD_pinLatches_same hlt, detect_iff]

end Sys2Proof.Machine
end

section
/-! The status, divisor and line registers of the serial windows (R352 to R357, R373 to R384, R393 to R406): what a write that
ends in the hook leaves, the bits of the status words, and the registers of the UART16550 beside its queues. -/

namespace Sys2Proof.Machine

/-! ## Writes that end in the hook -/

section
variable {w : Window} {i : Instr} {s s1 : State} {P : State → Prop}

/-- A stimulus that ends in the hook, once it is known what it emits before; `P` says what it does inside its window. -/
theorem exec_framed_of_hook {outs : List Output} (h : exec i s = hook w s1) (hin : Confined w false s s1)
    (hline : lineOf w s1 = lineOf w s) (htrace : s1.trace = s.trace ++ outs) (hP : ∀ t, windowSame w s1 t → P t) :
    ∃ t, exec i s = .next t ∧ Framed w outs .nothing s t ∧ P t := by
  obtain ⟨honly, hmem⟩ := hin
  obtain ⟨t, hnext, hsame, hframed⟩ := hook_framed honly (fun a => by rw [hmem rfl]) hline htrace
  exact ⟨t, h.trans hnext, hframed, hP t hsame⟩

/-- A write that is refused with a warning under `p`, and else stores. -/
theorem exec_framed_of_hook_refusing {p : Prop} [Decidable p] {c : Warning}
    (h : exec i s = hook w (if p then warn c s else s1)) (hin : Confined w false s s1) (hline : lineOf w s1 = lineOf w s)
    (htrace : s1.trace = s.trace) (hrefused : p → ∀ t, windowSame w s t → P t)
    (hstored : ¬p → ∀ t, windowSame w s1 t → P t) :
    ∃ t, exec i s = .next t ∧ Framed w (if p then [.warn c] else []) .nothing s t ∧ P t := by
  by_cases hp : p
  · rw [if_pos hp] at h ⊢
    exact exec_framed_of_hook h (confined_warn c) (lineOf_warn w c s) rfl fun t ht =>
      hrefused hp t (windowSame_trans (windowSame_withTrace s w _) ht)
  · rw [if_neg hp] at h ⊢
    exact exec_framed_of_hook h hin hline (htrace.trans (List.append_nil _).symm) (hstored hp)

theorem exec_framed_of_hook_uart16550 {x : Uart16550} (h : exec i s = hook .uart16550 { s with u16 := x }) :
    ∃ t, exec i s = .next t ∧ Framed .uart16550 [] .nothing s t ∧ t.u16 = x :=
  exec_framed_of_hook h (confined_u16 x) rfl (List.append_nil _).symm fun _ hu16 => hu16

end

/-! ## The status words (R46, R57, R352, R383) -/

/-- A word within a mask has nothing above the mask. -/
theorem Within.ushiftRight_eq_zero {m x : Word} {n : Nat} (h : Within m x) (hm : m >>> n = 0) : x >>> n = 0 := by
  rw [← h.and_mask_eq, BitVec.ushiftRight_and_distrib, hm]
  exact BitVec.and_zero

theorem isEmpty_eq_decide (q : List Byte) : isEmpty q = decide (q.length = 0) := rfl

theorem isFull_eq_decide (cap : Nat) (q : List Byte) : isFull cap q = decide (q.length = cap) := rfl

theorem statusWord_fields (cap : Nat) (p : Port) :
    (statusWord cap p).getLsbD 0 = decide (p.tx.length = 0) ∧ (statusWord cap p).getLsbD 1 = decide (p.tx.length = cap) ∧
      (statusWord cap p).getLsbD 2 = decide (p.rx.length = 0) ∧ (statusWord cap p).getLsbD 3 = decide (p.rx.length = cap) ∧
      (statusWord cap p).getLsbD 4 = p.overrun ∧ statusWord cap p >>> 5 = 0 := by
  have hwithin : Within 0x1F (statusWord cap p) := by
    refine ((((within_flagAt ?_ _).or (within_flagAt ?_ _)).or (within_flagAt ?_ _)).or (within_flagAt ?_ _)).or
      (within_flagAt ?_ _) <;> decide
  refine ⟨?_, ?_, ?_, ?_, getLsbD_four_statusWord cap p, hwithin.ushiftRight_eq_zero rfl⟩ <;>
    simp [statusWord, getLsbD_flagAt, isEmpty_eq_decide, isFull_eq_decide, -BitVec.getLsbD_eq_getElem]

theorem lsrWord_fields (p : Port) :
    (lsrWord p).getLsbD 0 = decide (p.rx.length ≠ 0) ∧ (lsrWord p).getLsbD 1 = p.overrun ∧
      (lsrWord p).getLsbD 5 = decide (p.tx.length = 0) ∧ (lsrWord p).getLsbD 6 = decide (p.tx.length = 0) ∧
      lsrWord p &&& ~~~0x63#32 = 0 := by
  have hwithin : Within 0x63 (lsrWord p) := by
    refine (((within_flagAt ?_ _).or (within_flagAt ?_ _)).or (within_flagAt ?_ _)).or (within_flagAt ?_ _) <;> decide
  refine ⟨?_, ?_, ?_, ?_, hwithin⟩ <;>
    simp [lsrWord, getLsbD_flagAt, isEmpty_eq_decide, -BitVec.getLsbD_eq_getElem]

theorem ierWord_fields (u : Uart16550) :
    (ierWord u).getLsbD 0 = u.erbfi ∧ (ierWord u).getLsbD 1 = u.etbei ∧ (ierWord u).getLsbD 2 = u.elsi ∧
      ierWord u >>> 3 = 0 := by
  have hwithin : Within 0x7 (ierWord u) := by
    refine ((within_flagAt ?_ _).or (within_flagAt ?_ _)).or (within_flagAt ?_ _) <;> decide
  refine ⟨?_, ?_, ?_, hwithin.ushiftRight_eq_zero rfl⟩ <;>
    simp [ierWord, getLsbD_flagAt, -BitVec.getLsbD_eq_getElem]

/-! ## The overrun flag (R301) -/

/-- Writing 1 clears the flag, writing 0 leaves it. -/
theorem clearOverrun_if (w : Serial) (b : Bool) (s : State) :
    (if b then clearOverrun w s else s) = setPort w { portOf w s with overrun := (portOf w s).overrun && !b } s := by
  cases b with
  | true => simp [clearOverrun]
  | false =>
    rw [Bool.not_false, Bool.and_true]
    exact (setPort_portOf w s).symm

/-- A write whose one effect is to clear the flag under a bit. -/
theorem exec_framed_of_hook_clearOverrun {w : Serial} {i : Instr} {b : Bool} {s : State} {P : State → Prop}
    (h : exec i s = hook (serialWindow w) (if b then clearOverrun w s else s))
    (hP : ∀ t, windowSame (serialWindow w)
      (setPort w { portOf w s with overrun := (portOf w s).overrun && !b } s) t → P t) :
    ∃ t, exec i s = .next t ∧ Framed (serialWindow w) [] .nothing s t ∧ P t :=
  exec_framed_of_hook (h.trans (congrArg (hook _) (clearOverrun_if w b s))) (PortStep.setPort w _ s).confined
    (lineOf_setPort _ w _ s) ((setPort_trace w _ s).trans (List.append_nil _).symm) hP

theorem exec_rdUart16550Lsr_framed (s : State) :
    ∃ t, exec .rdUart16550Lsr s = .next t ∧ Framed .uart16550 [] (.word (lsrWord s.u16.port)) s t ∧
      t.u16 = { s.u16 with port := { s.u16.port with overrun := false } } := by
  obtain ⟨honly, hmem, hline, _⟩ := (clearOverrun_portStep .uart16550 s).frame
  exact ⟨_, rfl, framed_updateInterrupts _ honly hmem hline (List.append_nil _).symm,
    windowSame_updateInterrupts .uart16550 .uart16550 _⟩

/-! ## `FCR` (R380) -/

theorem clearFifo_if_rx (w : Serial) (b : Bool) (s : State) : (if b then clearFifo ⟨w, .rx⟩ s else s) =
    setPort w { portOf w s with rx := if b then [] else (portOf w s).rx } s := by
  cases b with
  | true => rfl
  | false => exact (setPort_portOf w s).symm

theorem clearFifo_if_tx (w : Serial) (b : Bool) (s : State) : (if b then clearFifo ⟨w, .tx⟩ s else s) =
    setPort w { portOf w s with tx := if b then [] else (portOf w s).tx } s := by
  cases b with
  | true => rfl
  | false => exact (setPort_portOf w s).symm

theorem exec_wrUart16550Fcr (v : Word) (s : State) :
    exec (.wrUart16550Fcr v) s = hook .uart16550 { s with
      u16 := { s.u16 with
        fifoEn := v.getLsbD 0
        trig := v.extractLsb' 6 2
        port := { s.u16.port with
          rx := if v.getLsbD 1 then [] else s.u16.port.rx
          tx := if v.getLsbD 2 then [] else s.u16.port.tx } } } := by
  simp only [exec, execWrUart16550Fcr, clearFifo_if_rx, clearFifo_if_tx]
  rfl

/-! ## The settled statements -/

/-- Settles O43: the words of the status reads, and the flag under the status writes. -/
theorem statusReadsAndOverrunClears : Obligations.StatusReadsAndOverrunClears := by
  intro v s cap shows
  refine ⟨⟨_, rfl, statusWord_fields cap s.uart.port⟩, ⟨_, rfl, statusWord_fields cap s.spi.port⟩,
    ⟨_, rfl, statusWord_fields cap s.i2c.port⟩, ?wrUart, ?wrSpi, ?wrI2c, ?rdLsr, exec_framed_of_hook_uart16550 rfl⟩
  case wrUart => exact exec_framed_of_hook_clearOverrun (w := .uart) rfl fun _ huart => huart
  case wrSpi => exact exec_framed_of_hook_clearOverrun (w := .spi) rfl fun _ hspi => hspi
  case wrI2c => exact exec_framed_of_hook_clearOverrun (w := .i2c) rfl fun _ hi2c => hi2c
  case rdLsr =>
    obtain ⟨t, hnext, hframed, hu16⟩ := exec_rdUart16550Lsr_framed s
    exact ⟨_, t, hnext, hframed, hu16, lsrWord_fields s.u16.port⟩

/-- Settles O46: both divisor writes refuse 0, and the divisor stays. -/
theorem zeroDivisorIsRefused : Obligations.ZeroDivisorIsRefused := by
  intro v s d
  refine ⟨congrArg (doneWord · s) (BitVec.shiftLeft_zero _), congrArg (doneWord · s) (BitVec.shiftLeft_zero _), ?baud, ?clock⟩
  case baud =>
    refine exec_framed_of_hook_refusing (s1 := { s with uart := { s.uart with div := d } }) rfl (confined_uart _) rfl rfl
      (fun hzero t huart => ?_) fun hd t huart => ?_
    · rw [if_pos hzero]
      exact huart
    · rw [if_neg hd]
      exact huart
  case clock =>
    refine exec_framed_of_hook_refusing (s1 := { s with i2c := { s.i2c with div := d } }) rfl (confined_i2c _) rfl rfl
      (fun hzero t hi2c => ?_) fun hd t hi2c => ?_
    · rw [if_pos hzero]
      exact hi2c
    · rw [if_neg hd]
      exact hi2c

/-- Settles O47: each write ends in the hook on the bits it stores; `exec_wrUart16550Fcr` is the one that touches the queues. -/
theorem uart16550RegistersHoldTheirBits : Obligations.Uart16550RegistersHoldTheirBits := by
  intro v sel s
  have hbyte (b : Byte) : fieldAt b 0 = b.setWidth 32 := BitVec.shiftLeft_zero _
  refine ⟨congrArg (doneWord · s) (hbyte _), congrArg (doneWord · s) (hbyte _), congrArg (doneWord · s) (hbyte _),
    ⟨_, rfl, ierWord_fields s.u16⟩, ?dll, ?dlh, ?ier, ?lcr, ?fcr, ?setMap⟩
  case dll | dlh | ier | lcr | setMap => exact exec_framed_of_hook_uart16550 rfl
  case fcr => exact exec_framed_of_hook_uart16550 (exec_wrUart16550Fcr v s)

end Sys2Proof.Machine
end

section
/-! The registers of TIMER and INTC (R420 to R434, R460 to R465): the bits their reads show, and the component state each write
stores before the hook. -/

namespace Sys2Proof.Machine

/-! ## TIMER (R420 to R434) -/

theorem flagAt_zero (b : Bool) : flagAt b 0 = if b then 1 else 0 := BitVec.shiftLeft_zero _

theorem timerControlWord_fields (running oneshot ovfIe : Bool) :
    (flagAt running 0 ||| flagAt oneshot 1 ||| flagAt ovfIe 2).getLsbD 0 = running ∧
      (flagAt running 0 ||| flagAt oneshot 1 ||| flagAt ovfIe 2).getLsbD 1 = oneshot ∧
      (flagAt running 0 ||| flagAt oneshot 1 ||| flagAt ovfIe 2).getLsbD 2 = ovfIe ∧
      (flagAt running 0 ||| flagAt oneshot 1 ||| flagAt ovfIe 2) >>> 3 = 0 := by
  have hwithin : Within 0x7 (flagAt running 0 ||| flagAt oneshot 1 ||| flagAt ovfIe 2) := by
    refine ((within_flagAt ?_ _).or (within_flagAt ?_ _)).or (within_flagAt ?_ _) <;> decide
  refine ⟨?_, ?_, ?_, hwithin.ushiftRight_eq_zero rfl⟩ <;>
    simp [getLsbD_flagAt, -BitVec.getLsbD_eq_getElem]

theorem cmpCtrlWord_reserved (c : Cmp) : (flagAt c.en 0 ||| flagAt c.pending 1) >>> 2 = 0 := by
  have hwithin : Within 0x3 (flagAt c.en 0 ||| flagAt c.pending 1) := by
    refine (within_flagAt ?_ _).or (within_flagAt ?_ _) <;> decide
  exact hwithin.ushiftRight_eq_zero rfl

section
variable {k : BitVec 4} {c : Cmp} {s : State}

theorem readsAs_timerCmp (hc : cmpAt s k.toNat = some c) :
    ReadsAs (.rdTimerCmpTarget k) s c.target ∧
      ReadsAs (.rdTimerCmpCtrl k) s (flagAt c.en 0 ||| flagAt c.pending 1) := by
  simp only [ReadsAs, exec, execRdTimerCmpTarget, execRdTimerCmpCtrl, hc]
  exact ⟨rfl, rfl⟩

theorem exec_wrTimerCmp (v : Word) (hc : cmpAt s k.toNat = some c) :
    exec (.wrTimerCmpTarget k v) s = hook .timer (setCmp s k.toNat { c with target := v, armed := true }) ∧
      exec (.wrTimerCmpCtrl k v) s =
        hook .timer (setCmp s k.toNat { c with en := v.getLsbD 0, pending := c.pending && !v.getLsbD 1 }) := by
  simp only [exec, execWrTimerCmpTarget, execWrTimerCmpCtrl, hc, and_self]

end

/-- A stimulus that stores a component state of the TIMER and ends in the hook does that and no more. -/
theorem exec_framed_of_hook_timer {i : Instr} {s : State} {x : Timer} (h : exec i s = hook .timer { s with timer := x }) :
    ∃ t, exec i s = .next t ∧ Framed .timer [] .nothing s t ∧ t.timer = x :=
  exec_framed_of_hook h (confined_timer x) rfl (List.append_nil _).symm fun _ htimer => htimer

/-- `EN` starts an idle channel, leaves a running one alone, or stops it (R222, R223, R421). -/
theorem tchStart_or_tchStop (arm on : Bool) (t : Timer) :
    (if on then tchStart arm t else tchStop t) = { t with
      running := on
      prescCnt := if on = true ∧ t.running = false then 0 else t.prescCnt
      cmp := if on = true ∧ t.running = false ∧ arm = true then t.cmp.map (fun c => { c with armed := true }) else t.cmp } := by
  cases on with
  | false => simp [tchStop]
  | true =>
    cases hrun : t.running with
    | true =>
      rw [if_pos rfl, tchStart_running arm hrun]
      cases t
      cases hrun
      rfl
    | false => simp [tchStart_idle arm hrun, rearm]

theorem exec_wrTimerStatus (v : Word) (s : State) : exec (.wrTimerStatus v) s =
    hook .timer { s with timer := { s.timer with ovfPending := s.timer.ovfPending && !v.getLsbD 0 } } := by
  simp only [exec, execWrTimerStatus]
  cases v.getLsbD 0 <;> simp

/-! ## INTC (R460 to R465) -/

/-- A stimulus that stores a component state of the INTC and ends in the hook does that and no more. -/
theorem exec_framed_of_hook_intc {i : Instr} {s : State} {x : Intc} (h : exec i s = hook .intc { s with intc := x }) :
    ∃ t, exec i s = .next t ∧ Framed .intc [] .nothing s t ∧ t.intc = x :=
  exec_framed_of_hook h (confined_intc x) rfl (List.append_nil _).symm fun _ hintc => hintc

/-- The snapshot shows the pending bits of the implemented sources (R199, R462). -/
theorem getLsbD_snapshot_intc {s : State} (h : s.cfg.nIrqSrc ≤ 32) (k : Nat) :
    (snapshot (sources .intc s)).getLsbD k = (decide (k < s.cfg.nIrqSrc) && s.intc.pending.getLsbD k) := by
  have hlen : (sources .intc s).length ≤ 32 := by simpa [sources] using h
  rw [getLsbD_snapshot hlen, sources_intc_getElem?]
  by_cases hk : k < s.cfg.nIrqSrc <;> simp [hk]

section
variable {n : BitVec 5} {p : Byte} {s : State}

theorem readsAs_intcPriority (hp : prioAt s n.toNat = some p) : ReadsAs (.rdIntcPriority n) s (p.setWidth 32) := by
  simp only [ReadsAs, exec, execRdIntcPriority, hp]
  exact congrArg (doneWord · s) (BitVec.shiftLeft_zero _)

theorem exec_wrIntcPriority (v : Word) (hp : prioAt s n.toNat = some p) : exec (.wrIntcPriority n v) s =
    hook .intc { s with intc := { s.intc with prio := s.intc.prio.set n.toNat (v.extractLsb' 0 8) } } := by
  simp only [exec, execWrIntcPriority, hp]

end

/-! ## The settled statements -/

/-- Settles O49: every read is of a stored value, or of a word packed from flags. -/
theorem timerReadsArePure : Obligations.TimerReadsArePure := by
  intro k c s
  refine ⟨rfl, rfl, rfl, congrArg (doneWord · s) (flagAt_zero _), ⟨_, rfl, timerControlWord_fields ..⟩, fun hc => ?compare⟩
  case compare =>
    obtain ⟨htarget, hctrl⟩ := readsAs_timerCmp hc
    obtain ⟨hen, hpending⟩ := cmpCtrlWord_fields c
    exact ⟨htarget, _, hctrl, hen, hpending, cmpCtrlWord_reserved c⟩

/-- Settles O50: each write ends in the hook on one changed timer; `CONTROL` is `tchStart_or_tchStop`. -/
theorem timerWritesStoreStartAndClear : Obligations.TimerWritesStoreStartAndClear := by
  intro v k c s T
  refine ⟨?control, exec_framed_of_hook_timer rfl, exec_framed_of_hook_timer rfl, ?prescaler,
    exec_framed_of_hook_timer (exec_wrTimerStatus v s), fun hc => ?compare⟩
  case control =>
    refine exec_framed_of_hook_timer ?_
    simp only [exec, execWrTimerControl, tchStart_or_tchStop]
    rfl
  case prescaler =>
    refine exec_framed_of_hook_refusing (s1 := { s with timer := { T with prescaler := v, prescCnt := 0 } }) rfl
      (confined_timer _) rfl rfl (fun hzero t htimer => ?_) fun hv t htimer => ?_
    · rw [if_pos hzero]
      exact htimer
    · rw [if_neg hv]
      exact htimer
  case compare =>
    obtain ⟨htarget, hctrl⟩ := exec_wrTimerCmp v hc
    exact ⟨exec_framed_of_hook_timer htarget, exec_framed_of_hook_timer hctrl⟩

/-- Settles O58: `getLsbD_snapshot_intc` for the pending word, and the hook on what each write stores. -/
theorem intcRegistersStoreAndRead : Obligations.IntcRegistersStoreAndRead := by
  intro n p v s hsrcs
  exact ⟨rfl, ⟨_, rfl, getLsbD_snapshot_intc hsrcs⟩, exec_framed_of_hook_intc rfl, exec_framed_of_hook_intc rfl,
    fun hp => ⟨readsAs_intcPriority hp, exec_framed_of_hook_intc (exec_wrIntcPriority v hp)⟩⟩

end Sys2Proof.Machine
end

section
/-! Window resets (R85, R520 to R523): `EV <W>.RESET` gives its window the reset values and settles its line. What it leaves there
depends on that window alone, so two resets commute; and power-on already holds the values. -/

namespace Sys2Proof.Machine

/-! ## The components of one window -/

theorem windowSame_symm {w : Window} {s t : State} (h : windowSame w s t) : windowSame w t s := by
  cases w <;> exact Eq.symm h

theorem lines_eq_of_lineOf {s t : State} (h : ∀ w, lineOf w t = lineOf w s) : t.lines = s.lines := by
  have levels (u : State) : u.lines = ⟨lineOf .gpio u, lineOf .uart u, lineOf .uart16550 u, lineOf .spi u, lineOf .i2c u,
    lineOf .timer u, lineOf .dma u, lineOf .intc u⟩ := rfl
  rw [levels t, levels s]
  simp only [h]

/-- Two states that agree on every window and every line, on the parameters, the queue, `Mem` and the result, differ in the
trace alone. -/
theorem eq_withTrace_of_windowSame {s t : State} (hcfg : t.cfg = s.cfg) (hinput : t.input = s.input) (hmem : t.mem = s.mem)
    (hresult : t.result = s.result) (hwin : ∀ w, windowSame w s t) (hline : ∀ w, lineOf w t = lineOf w s) :
    t = { s with trace := t.trace } := by
  have hgpio : t.gpio = s.gpio := hwin .gpio
  have huart : t.uart = s.uart := hwin .uart
  have hu16 : t.u16 = s.u16 := hwin .uart16550
  have hspi : t.spi = s.spi := hwin .spi
  have hi2c : t.i2c = s.i2c := hwin .i2c
  have htimer : t.timer = s.timer := hwin .timer
  have hdma : t.dma = s.dma := hwin .dma
  have hintc : t.intc = s.intc := hwin .intc
  rw [← hcfg, ← hinput, ← hmem, ← hresult, ← lines_eq_of_lineOf hline, ← hgpio, ← huart, ← hu16, ← hspi, ← hi2c, ← htimer,
    ← hdma, ← hintc]

/-- `s` with the component state of `w` as `src` has it. -/
def withWindow (w : Window) (src s : State) : State :=
  match w with
  | .gpio => { s with gpio := src.gpio }
  | .uart => { s with uart := src.uart }
  | .uart16550 => { s with u16 := src.u16 }
  | .spi => { s with spi := src.spi }
  | .i2c => { s with i2c := src.i2c }
  | .timer => { s with timer := src.timer }
  | .dma => { s with dma := src.dma }
  | .intc => { s with intc := src.intc }

section
variable (w : Window) (src s : State)

theorem windowSame_withWindow : windowSame w src (withWindow w src s) := by cases w <;> rfl

theorem confined_withWindow : Confined w false s (withWindow w src s) := by
  cases w with
  | gpio => exact confined_gpio _
  | uart => exact confined_uart _
  | uart16550 => exact confined_u16 _
  | spi => exact confined_spi _
  | i2c => exact confined_i2c _
  | timer => exact confined_timer _
  | dma => exact confined_dma _
  | intc => exact confined_intc _

theorem withWindow_trace : (withWindow w src s).trace = s.trace := by cases w <;> rfl

theorem lineOf_withWindow : lineOf w (withWindow w src s) = lineOf w s := by cases w <;> rfl

theorem withWindow_self : withWindow w s s = s := by cases w <;> rfl

end

/-! ## The reset values (R85) -/

/-- The reset values of every component, each list as long as it is. -/
def resetValues (s : State) : State :=
  { State.powerOn s.cfg with
    timer := timerReset s.timer
    dma := ⟨false, s.dma.ch.map chanReset⟩
    intc := ⟨0, 0, s.intc.prio.map fun _ => 0⟩ }

/-- In a state whose lists have their lengths these are the values at power-on. -/
theorem resetValues_eq_powerOn {s : State} (h : LengthsOk s) : resetValues s = State.powerOn s.cfg := by
  obtain ⟨hcmp, hch, hprio⟩ := h
  have htimer : s.timer.cmp.map cmpReset = List.replicate s.cfg.nCmp Cmp.reset := hcmp ▸ List.map_const' ..
  have hdma : s.dma.ch.map chanReset = List.replicate s.cfg.nDmaCh DmaChannel.reset := hch ▸ List.map_const' ..
  have hintc : s.intc.prio.map (fun _ => (0 : Byte)) = List.replicate s.cfg.nIrqSrc 0 := hprio ▸ List.map_const' ..
  simp only [resetValues, timerReset, htimer, hdma, hintc]
  rfl

/-- The reset values of a window come from its own component state and the parameters. -/
theorem windowSame_resetValues {w : Window} {s t : State} (hcfg : t.cfg = s.cfg) (h : windowSame w s t) :
    windowSame w (resetValues s) (resetValues t) := by
  cases w <;> simp only [windowSame, resetValues, State.powerOn, hcfg] at h ⊢ <;> rw [h]

theorem lengthsOk_powerOn (c : Config) : LengthsOk (State.powerOn c) :=
  ⟨List.length_replicate, List.length_replicate, List.length_replicate⟩

/-! ## The reset event (R520) -/

theorem exec_resetEvent (w : Window) (s : State) : exec (resetEvent w) s = hook w (withWindow w (resetValues s) s) := by
  cases w <;> rfl

/-- The state that `EV <W>.RESET` leaves. -/
def afterReset (w : Window) (s : State) : State := ret .nothing (updateInterrupts w (withWindow w (resetValues s) s))

section
variable (w : Window) (s : State)

theorem exec_resetEvent_next : exec (resetEvent w) s = .next (afterReset w s) := exec_resetEvent w s

theorem afterReset_result : (afterReset w s).result = .nothing := rfl

theorem windowSame_afterReset : windowSame w (resetValues s) (afterReset w s) :=
  windowSame_trans (windowSame_withWindow ..) (windowSame_trans (windowSame_updateInterrupts ..) (windowSame_ret ..))

theorem confined_afterReset : Confined w false s (afterReset w s) :=
  ((confined_withWindow ..).trans confined_updateInterrupts).trans (confined_ret _)

theorem framed_afterReset : Framed w [] .nothing s (afterReset w s) := by
  obtain ⟨honly, hmem⟩ := confined_withWindow w (resetValues s) s
  exact framed_updateInterrupts .nothing honly (fun a => by rw [hmem rfl]) (lineOf_withWindow w _ s)
    ((withWindow_trace w _ s).trans (List.append_nil _).symm)

end

theorem lineOf_afterReset {w : Window} {s : State} (h : LengthsOk s) : lineOf w (afterReset w s) = false := by
  obtain ⟨⟨hcfg, _, _⟩, _, ⟨hline, _⟩, _⟩ := framed_afterReset w s
  have hsame := windowSame_afterReset w s
  rw [resetValues_eq_powerOn h] at hsame
  exact hline.trans ((lineLevel_congr (s := State.powerOn s.cfg) hcfg hsame).trans (lineLevel_powerOn s.cfg w))

/-! ## Two resets (R523) -/

/-- What a reset leaves in its window and on its line depends on that window alone. -/
theorem afterReset_local {w : Window} {s t : State} (hcfg : t.cfg = s.cfg) (h : windowSame w s t) :
    windowSame w (afterReset w s) (afterReset w t) ∧ lineOf w (afterReset w t) = lineOf w (afterReset w s) := by
  have hsame : windowSame w (afterReset w s) (afterReset w t) :=
    windowSame_trans (windowSame_symm (windowSame_afterReset w s))
      (windowSame_trans (windowSame_resetValues hcfg h) (windowSame_afterReset w t))
  obtain ⟨⟨hcfg', _, _⟩, _, ⟨hline, _⟩, _⟩ := framed_afterReset w s
  obtain ⟨⟨hcfg'', _, _⟩, _, ⟨hline', _⟩, _⟩ := framed_afterReset w t
  exact ⟨hsame, by rw [hline, hline', lineLevel_congr (hcfg''.trans (hcfg.trans hcfg'.symm)) hsame]⟩

section
variable (w x : Window) (s : State)

/-- Outside their two windows, two resets leave everything but the trace. -/
theorem afterReset_afterReset_frame :
    (afterReset x (afterReset w s)).cfg = s.cfg ∧ (afterReset x (afterReset w s)).input = s.input ∧
      (afterReset x (afterReset w s)).mem = s.mem ∧ ∀ y, y ≠ w → y ≠ x → windowSame y s (afterReset x (afterReset w s)) ∧
        lineOf y (afterReset x (afterReset w s)) = lineOf y s := by
  obtain ⟨⟨hcfg, hinput, hother⟩, hmem⟩ := confined_afterReset w s
  obtain ⟨⟨hcfg', hinput', hother'⟩, hmem'⟩ := confined_afterReset x (afterReset w s)
  refine ⟨hcfg'.trans hcfg, hinput'.trans hinput, (hmem' rfl).trans (hmem rfl), fun y hw hx => ?_⟩
  obtain ⟨hsame, hline⟩ := hother y hw
  obtain ⟨hsame', hline'⟩ := hother' y hx
  exact ⟨windowSame_trans hsame hsame', hline'.trans hline⟩

variable {w x}

/-- A reset finds its window as it was before a reset of another window, and leaves it so that the other does not change it. -/
theorem afterReset_afterReset_own (h : w ≠ x) :
    windowSame w (afterReset x (afterReset w s)) (afterReset w (afterReset x s)) ∧
      lineOf w (afterReset w (afterReset x s)) = lineOf w (afterReset x (afterReset w s)) := by
  obtain ⟨⟨_, _, hlater⟩, _⟩ := confined_afterReset x (afterReset w s)
  obtain ⟨⟨hcfg, _, hearlier⟩, _⟩ := confined_afterReset x s
  obtain ⟨hkept, hkeptLine⟩ := hlater w h
  obtain ⟨hsame, hline⟩ := afterReset_local hcfg (hearlier w h).1
  exact ⟨windowSame_trans (windowSame_symm hkept) hsame, hline.trans hkeptLine.symm⟩

/-- The two orders agree on every window and line: on the first window, on the second, and on the others. -/
theorem afterReset_comm_windows (h : w ≠ x) (y : Window) :
    windowSame y (afterReset w (afterReset x s)) (afterReset x (afterReset w s)) ∧
      lineOf y (afterReset x (afterReset w s)) = lineOf y (afterReset w (afterReset x s)) := by
  rcases eq_or_ne y w with rfl | hw
  · obtain ⟨hsame, hline⟩ := afterReset_afterReset_own s h
    exact ⟨windowSame_symm hsame, hline.symm⟩
  · rcases eq_or_ne y x with rfl | hx
    · exact afterReset_afterReset_own s h.symm
    · obtain ⟨_, _, _, hother⟩ := afterReset_afterReset_frame w x s
      obtain ⟨_, _, _, hother'⟩ := afterReset_afterReset_frame x w s
      obtain ⟨hsame, hline⟩ := hother y hw hx
      obtain ⟨hsame', hline'⟩ := hother' y hx hw
      exact ⟨windowSame_trans (windowSame_symm hsame') hsame, hline.trans hline'.symm⟩

theorem afterReset_comm (h : w ≠ x) : afterReset x (afterReset w s) =
    { afterReset w (afterReset x s) with trace := (afterReset x (afterReset w s)).trace } := by
  obtain ⟨hcfg, hinput, hmem, _⟩ := afterReset_afterReset_frame w x s
  obtain ⟨hcfg', hinput', hmem', _⟩ := afterReset_afterReset_frame x w s
  have hagree := afterReset_comm_windows s h
  exact eq_withTrace_of_windowSame (hcfg.trans hcfg'.symm) (hinput.trans hinput'.symm) (hmem.trans hmem'.symm)
    ((afterReset_result x _).trans (afterReset_result w _).symm) (fun y => (hagree y).1) fun y => (hagree y).2

end

/-- The resets of `w` and then `x`, run one after the other. -/
theorem execAll_resetEvents (w x : Window) (s : State) :
    execAll [resetEvent w, resetEvent x] s = .next (afterReset x (afterReset w s)) := by
  simp only [execAll, exec_resetEvent_next, andThen_next]

/-! ## The settled statements -/

/-- Settles O32: the values of `resetValues`, and the frame of the hook. -/
theorem windowResetRestoresWindow : Obligations.WindowResetRestoresWindow := by
  intro w s hlen
  exact ⟨_, exec_resetEvent_next w s, resetValues_eq_powerOn hlen ▸ windowSame_afterReset w s, lineOf_afterReset hlen,
    framed_afterReset w s⟩

/-- Settles O35: `afterReset_comm` on the two runs. -/
theorem windowResetsCommute : Obligations.WindowResetsCommute := fun w x s h =>
  ⟨_, _, execAll_resetEvents w x s, execAll_resetEvents x w s, afterReset_comm s h⟩

/-- Settles O33: the window has its reset values already, and its line is settled. -/
theorem powerOnIsTheResetState : Obligations.PowerOnIsTheResetState := by
  intro c w
  have hvalues : resetValues (State.powerOn c) = State.powerOn c := resetValues_eq_powerOn (lengthsOk_powerOn c)
  have hline : lineOf w (State.powerOn c) = lineLevel w (State.powerOn c) := linesAgree_iff.mp (linesAgree_powerOn c) w
  rw [exec_resetEvent, hvalues, withWindow_self, hook, updateInterrupts_of_settled hline]
  rfl

end Sys2Proof.Machine
end
